-- ==== Sys2Proof/Word.lean ====
section
/-! DEFINITION. The word types of the core: an 8-bit data width and a 16-bit address width (R7). -/

namespace Sys2Proof

/-- An 8-bit value: a register, a memory byte or an instruction byte (R7, "data width 8 bits"). -/
abbrev Byte := BitVec 8

/-- A 16-bit value: an address, a register-pair view, SP or PC (R7, "address width 16 bits"). -/
abbrev Word := BitVec 16

end Sys2Proof
end

