-- ==== Sys2Proof/Config.lean ====
section
/-! DEFINITION. What the spec leaves to the implementation: the parameters of R7 and of
93_implementation_defined.md section 2 that are constants of the machine rather than state. -/

namespace Sys2Proof.Config

/-- `FILLER_BYTE` (R63, D15, OPEN): the one byte that a read of 8000-9FFF, FE00-FE9F or FEA0-FEFF returns.
The spec fixes that the constant exists and not its value, so it has no body here: every claim holds for
every value of it (log entry 1). -/
opaque fillerByte : Byte

/-- `TICKS_PER_MCYCLE` (R7, D5): one timer tick per machine cycle. It is fixed, not open. -/
def ticksPerMCycle : Nat := 1

end Sys2Proof.Config
end

