-- ==== Sys2Proof/Syntax.lean ====
section
/-! DEFINITION. The instructions: `Instr`, one constructor per row of spec/opcode_table.json (256 primary
rows and 256 CB rows, R100 to R103), and `Form`, the same instructions grouped by their operand fields
(R93 to R97), which the decoder and the encoder work on. -/

namespace Sys2Proof

/-- The seven 8-bit registers a 3-bit code can name (R93, codes 0-5 and 7). -/
inductive Reg8 where
  | b
  | c
  | d
  | e
  | h
  | l
  | a
deriving DecidableEq, Repr

/-- An 8-bit operand with a 3-bit code (R93, R99): a register, or code 6, the memory byte at address HL. -/
inductive Loc8 where
  | reg (r : Reg8)
  | atHl
deriving DecidableEq, Repr

/-- The pairs of field `rp` (R94). -/
inductive Pair where
  | bc
  | de
  | hl
  | sp
deriving DecidableEq, Repr

/-- The pairs of field `rp2` (R94): those PUSH and POP move. -/
inductive StackPair where
  | bc
  | de
  | hl
  | af
deriving DecidableEq, Repr

/-- The pairs that address memory for A besides HL (R98, register-indirect). -/
inductive PtrPair where
  | bc
  | de
deriving DecidableEq, Repr

/-- The condition codes (R95). -/
inductive Cond where
  | nz
  | z
  | nc
  | c
deriving DecidableEq, Repr

/-- The ALU operations (R96). -/
inductive AluOp where
  | add
  | adc
  | sub
  | sbc
  | and
  | xor
  | or
  | cp
deriving DecidableEq, Repr

/-- The three operand forms of an ALU operation (R160). -/
inductive AluSrc where
  | reg (r : Reg8)
  | atHl
  | imm (n8 : Byte)
deriving DecidableEq, Repr

/-- The rotate and shift variants (R102). -/
inductive RotOp where
  | rlc
  | rrc
  | rl
  | rr
  | sla
  | sra
  | swap
  | srl
deriving DecidableEq, Repr

/-- The eleven unmapped primary opcodes (R103). -/
inductive IllegalOp where
  | xD3
  | xDB
  | xDD
  | xE3
  | xE4
  | xEB
  | xEC
  | xED
  | xF4
  | xFC
  | xFD
deriving DecidableEq, Repr

/-- An instruction by its operation and its operand fields. `Form` and `Instr` are the same set
(Sys2Proof/Laws/Encoding.lean). -/
inductive Form where
  | nop
  | halt
  | stop
  | di
  | ei
  | daa
  | cpl
  | scf
  | ccf
  | rlca
  | rrca
  | rla
  | rra
  | ldRegReg (dst src : Reg8)
  | ldRegImm (dst : Reg8) (n8 : Byte)
  | ldRegAtHl (dst : Reg8)
  | ldAtHlReg (src : Reg8)
  | ldAtHlImm (n8 : Byte)
  | ldAAtPtr (p : PtrPair)
  | ldAtPtrA (p : PtrPair)
  | ldAAtA16 (a16 : Word)
  | ldAtA16A (a16 : Word)
  | ldhAAtC
  | ldhAtCA
  | ldhAAtA8 (a8 : Byte)
  | ldhAtA8A (a8 : Byte)
  | ldAAtHlInc
  | ldAAtHlDec
  | ldAtHlIncA
  | ldAtHlDecA
  | ldPairImm (rr : Pair) (n16 : Word)
  | ldAtA16Sp (a16 : Word)
  | ldSpHl
  | ldHlSpE8 (e8 : Byte)
  | push (rr : StackPair)
  | pop (rr : StackPair)
  | alu (op : AluOp) (src : AluSrc)
  | inc (x : Loc8)
  | dec (x : Loc8)
  | addHl (rr : Pair)
  | incPair (rr : Pair)
  | decPair (rr : Pair)
  | addSpE8 (e8 : Byte)
  | jp (a16 : Word)
  | jpCc (cc : Cond) (a16 : Word)
  | jpHl
  | jr (e8 : Byte)
  | jrCc (cc : Cond) (e8 : Byte)
  | call (a16 : Word)
  | callCc (cc : Cond) (a16 : Word)
  | ret
  | retCc (cc : Cond)
  | reti
  | rst (y : Fin 8)
  | prefixCb (sub : Byte)
  | illegal (op : IllegalOp)
  | rot (op : RotOp) (x : Loc8)
  | bit (b : Fin 8) (x : Loc8)
  | res (b : Fin 8) (x : Loc8)
  | set (b : Fin 8) (x : Loc8)
deriving DecidableEq, Repr

/-- The instructions, one constructor per row of spec/opcode_table.json: the rows with an immediate operand first (Lean's
compiler wants constructors with fields early), each group in the table's order; each line names the row's words. Immediates are operands (n8, e8, a8, n16 and a16 of R97). The eleven illegal rows are
instructions too: executing one is a DecodeFailure (R286). `prefixCb` is the row PREFIX CB, whose words are
those of the CB rows (R285). -/
inductive Instr where
  /-- 01 `LD BC,n16` (R139) -/
  | ldBcN16 (n16 : Word)
  /-- 06 `LD B,n8` (R121) -/
  | ldBN8 (n8 : Byte)
  /-- 08 `LD (a16),SP` (R140) -/
  | ldAtA16Sp (a16 : Word)
  /-- 0E `LD C,n8` (R121) -/
  | ldCN8 (n8 : Byte)
  /-- 11 `LD DE,n16` (R139) -/
  | ldDeN16 (n16 : Word)
  /-- 16 `LD D,n8` (R121) -/
  | ldDN8 (n8 : Byte)
  /-- 18 `JR e8` (R254) -/
  | jrE8 (e8 : Byte)
  /-- 1E `LD E,n8` (R121) -/
  | ldEN8 (n8 : Byte)
  /-- 20 `JR NZ,e8` (R255) -/
  | jrNzE8 (e8 : Byte)
  /-- 21 `LD HL,n16` (R139) -/
  | ldHlN16 (n16 : Word)
  /-- 26 `LD H,n8` (R121) -/
  | ldHN8 (n8 : Byte)
  /-- 28 `JR Z,e8` (R255) -/
  | jrZE8 (e8 : Byte)
  /-- 2E `LD L,n8` (R121) -/
  | ldLN8 (n8 : Byte)
  /-- 30 `JR NC,e8` (R255) -/
  | jrNcE8 (e8 : Byte)
  /-- 31 `LD SP,n16` (R139) -/
  | ldSpN16 (n16 : Word)
  /-- 36 `LD (HL),n8` (R124) -/
  | ldAtHlN8 (n8 : Byte)
  /-- 38 `JR C,e8` (R255) -/
  | jrCE8 (e8 : Byte)
  /-- 3E `LD A,n8` (R121) -/
  | ldAN8 (n8 : Byte)
  /-- C2 `JP NZ,a16` (R252) -/
  | jpNzA16 (a16 : Word)
  /-- C3 `JP a16` (R251) -/
  | jpA16 (a16 : Word)
  /-- C4 `CALL NZ,a16` (R257) -/
  | callNzA16 (a16 : Word)
  /-- C6 `ADD A,n8` (R165) -/
  | addAN8 (n8 : Byte)
  /-- CA `JP Z,a16` (R252) -/
  | jpZA16 (a16 : Word)
  /-- CB `PREFIX CB` (R285) -/
  | prefixCb (sub : Byte)
  /-- CC `CALL Z,a16` (R257) -/
  | callZA16 (a16 : Word)
  /-- CD `CALL a16` (R256) -/
  | callA16 (a16 : Word)
  /-- CE `ADC A,n8` (R168) -/
  | adcAN8 (n8 : Byte)
  /-- D2 `JP NC,a16` (R252) -/
  | jpNcA16 (a16 : Word)
  /-- D4 `CALL NC,a16` (R257) -/
  | callNcA16 (a16 : Word)
  /-- D6 `SUB n8` (R171) -/
  | subN8 (n8 : Byte)
  /-- DA `JP C,a16` (R252) -/
  | jpCA16 (a16 : Word)
  /-- DC `CALL C,a16` (R257) -/
  | callCA16 (a16 : Word)
  /-- DE `SBC A,n8` (R174) -/
  | sbcAN8 (n8 : Byte)
  /-- E0 `LDH (a8),A` (R134) -/
  | ldhAtA8A (a8 : Byte)
  /-- E6 `AND n8` (R177) -/
  | andN8 (n8 : Byte)
  /-- E8 `ADD SP,e8` (R204) -/
  | addSpE8 (e8 : Byte)
  /-- EA `LD (a16),A` (R130) -/
  | ldAtA16A (a16 : Word)
  /-- EE `XOR n8` (R180) -/
  | xorN8 (n8 : Byte)
  /-- F0 `LDH A,(a8)` (R133) -/
  | ldhAAtA8 (a8 : Byte)
  /-- F6 `OR n8` (R183) -/
  | orN8 (n8 : Byte)
  /-- F8 `LD HL,SP+e8` (R205) -/
  | ldHlSpE8 (e8 : Byte)
  /-- FA `LD A,(a16)` (R129) -/
  | ldAAtA16 (a16 : Word)
  /-- FE `CP n8` (R186) -/
  | cpN8 (n8 : Byte)
  /-- 00 `NOP` (R280) -/
  | nop
  /-- 02 `LD (BC),A` (R127) -/
  | ldAtBcA
  /-- 03 `INC BC` (R202) -/
  | incBc
  /-- 04 `INC B` (R187) -/
  | incB
  /-- 05 `DEC B` (R189) -/
  | decB
  /-- 07 `RLCA` (R220) -/
  | rlca
  /-- 09 `ADD HL,BC` (R201) -/
  | addHlBc
  /-- 0A `LD A,(BC)` (R125) -/
  | ldAAtBc
  /-- 0B `DEC BC` (R203) -/
  | decBc
  /-- 0C `INC C` (R187) -/
  | incC
  /-- 0D `DEC C` (R189) -/
  | decC
  /-- 0F `RRCA` (R221) -/
  | rrca
  /-- 10 `STOP` (R282) -/
  | stop
  /-- 12 `LD (DE),A` (R128) -/
  | ldAtDeA
  /-- 13 `INC DE` (R202) -/
  | incDe
  /-- 14 `INC D` (R187) -/
  | incD
  /-- 15 `DEC D` (R189) -/
  | decD
  /-- 17 `RLA` (R222) -/
  | rla
  /-- 19 `ADD HL,DE` (R201) -/
  | addHlDe
  /-- 1A `LD A,(DE)` (R126) -/
  | ldAAtDe
  /-- 1B `DEC DE` (R203) -/
  | decDe
  /-- 1C `INC E` (R187) -/
  | incE
  /-- 1D `DEC E` (R189) -/
  | decE
  /-- 1F `RRA` (R223) -/
  | rra
  /-- 22 `LD (HL+),A` (R137) -/
  | ldAtHlIncA
  /-- 23 `INC HL` (R202) -/
  | incHl
  /-- 24 `INC H` (R187) -/
  | incH
  /-- 25 `DEC H` (R189) -/
  | decH
  /-- 27 `DAA` (R191) -/
  | daa
  /-- 29 `ADD HL,HL` (R201) -/
  | addHlHl
  /-- 2A `LD A,(HL+)` (R135) -/
  | ldAAtHlInc
  /-- 2B `DEC HL` (R203) -/
  | decHl
  /-- 2C `INC L` (R187) -/
  | incL
  /-- 2D `DEC L` (R189) -/
  | decL
  /-- 2F `CPL` (R192) -/
  | cpl
  /-- 32 `LD (HL-),A` (R138) -/
  | ldAtHlDecA
  /-- 33 `INC SP` (R202) -/
  | incSp
  /-- 34 `INC (HL)` (R188) -/
  | incAtHl
  /-- 35 `DEC (HL)` (R190) -/
  | decAtHl
  /-- 37 `SCF` (R193) -/
  | scf
  /-- 39 `ADD HL,SP` (R201) -/
  | addHlSp
  /-- 3A `LD A,(HL-)` (R136) -/
  | ldAAtHlDec
  /-- 3B `DEC SP` (R203) -/
  | decSp
  /-- 3C `INC A` (R187) -/
  | incA
  /-- 3D `DEC A` (R189) -/
  | decA
  /-- 3F `CCF` (R194) -/
  | ccf
  /-- 40 `LD B,B` (R120) -/
  | ldBB
  /-- 41 `LD B,C` (R120) -/
  | ldBC
  /-- 42 `LD B,D` (R120) -/
  | ldBD
  /-- 43 `LD B,E` (R120) -/
  | ldBE
  /-- 44 `LD B,H` (R120) -/
  | ldBH
  /-- 45 `LD B,L` (R120) -/
  | ldBL
  /-- 46 `LD B,(HL)` (R122) -/
  | ldBAtHl
  /-- 47 `LD B,A` (R120) -/
  | ldBA
  /-- 48 `LD C,B` (R120) -/
  | ldCB
  /-- 49 `LD C,C` (R120) -/
  | ldCC
  /-- 4A `LD C,D` (R120) -/
  | ldCD
  /-- 4B `LD C,E` (R120) -/
  | ldCE
  /-- 4C `LD C,H` (R120) -/
  | ldCH
  /-- 4D `LD C,L` (R120) -/
  | ldCL
  /-- 4E `LD C,(HL)` (R122) -/
  | ldCAtHl
  /-- 4F `LD C,A` (R120) -/
  | ldCA
  /-- 50 `LD D,B` (R120) -/
  | ldDB
  /-- 51 `LD D,C` (R120) -/
  | ldDC
  /-- 52 `LD D,D` (R120) -/
  | ldDD
  /-- 53 `LD D,E` (R120) -/
  | ldDE
  /-- 54 `LD D,H` (R120) -/
  | ldDH
  /-- 55 `LD D,L` (R120) -/
  | ldDL
  /-- 56 `LD D,(HL)` (R122) -/
  | ldDAtHl
  /-- 57 `LD D,A` (R120) -/
  | ldDA
  /-- 58 `LD E,B` (R120) -/
  | ldEB
  /-- 59 `LD E,C` (R120) -/
  | ldEC
  /-- 5A `LD E,D` (R120) -/
  | ldED
  /-- 5B `LD E,E` (R120) -/
  | ldEE
  /-- 5C `LD E,H` (R120) -/
  | ldEH
  /-- 5D `LD E,L` (R120) -/
  | ldEL
  /-- 5E `LD E,(HL)` (R122) -/
  | ldEAtHl
  /-- 5F `LD E,A` (R120) -/
  | ldEA
  /-- 60 `LD H,B` (R120) -/
  | ldHB
  /-- 61 `LD H,C` (R120) -/
  | ldHC
  /-- 62 `LD H,D` (R120) -/
  | ldHD
  /-- 63 `LD H,E` (R120) -/
  | ldHE
  /-- 64 `LD H,H` (R120) -/
  | ldHH
  /-- 65 `LD H,L` (R120) -/
  | ldHL
  /-- 66 `LD H,(HL)` (R122) -/
  | ldHAtHl
  /-- 67 `LD H,A` (R120) -/
  | ldHA
  /-- 68 `LD L,B` (R120) -/
  | ldLB
  /-- 69 `LD L,C` (R120) -/
  | ldLC
  /-- 6A `LD L,D` (R120) -/
  | ldLD
  /-- 6B `LD L,E` (R120) -/
  | ldLE
  /-- 6C `LD L,H` (R120) -/
  | ldLH
  /-- 6D `LD L,L` (R120) -/
  | ldLL
  /-- 6E `LD L,(HL)` (R122) -/
  | ldLAtHl
  /-- 6F `LD L,A` (R120) -/
  | ldLA
  /-- 70 `LD (HL),B` (R123) -/
  | ldAtHlB
  /-- 71 `LD (HL),C` (R123) -/
  | ldAtHlC
  /-- 72 `LD (HL),D` (R123) -/
  | ldAtHlD
  /-- 73 `LD (HL),E` (R123) -/
  | ldAtHlE
  /-- 74 `LD (HL),H` (R123) -/
  | ldAtHlH
  /-- 75 `LD (HL),L` (R123) -/
  | ldAtHlL
  /-- 76 `HALT` (R281) -/
  | halt
  /-- 77 `LD (HL),A` (R123) -/
  | ldAtHlA
  /-- 78 `LD A,B` (R120) -/
  | ldAB
  /-- 79 `LD A,C` (R120) -/
  | ldAC
  /-- 7A `LD A,D` (R120) -/
  | ldAD
  /-- 7B `LD A,E` (R120) -/
  | ldAE
  /-- 7C `LD A,H` (R120) -/
  | ldAH
  /-- 7D `LD A,L` (R120) -/
  | ldAL
  /-- 7E `LD A,(HL)` (R122) -/
  | ldAAtHl
  /-- 7F `LD A,A` (R120) -/
  | ldAA
  /-- 80 `ADD A,B` (R163) -/
  | addAB
  /-- 81 `ADD A,C` (R163) -/
  | addAC
  /-- 82 `ADD A,D` (R163) -/
  | addAD
  /-- 83 `ADD A,E` (R163) -/
  | addAE
  /-- 84 `ADD A,H` (R163) -/
  | addAH
  /-- 85 `ADD A,L` (R163) -/
  | addAL
  /-- 86 `ADD A,(HL)` (R164) -/
  | addAAtHl
  /-- 87 `ADD A,A` (R163) -/
  | addAA
  /-- 88 `ADC A,B` (R166) -/
  | adcAB
  /-- 89 `ADC A,C` (R166) -/
  | adcAC
  /-- 8A `ADC A,D` (R166) -/
  | adcAD
  /-- 8B `ADC A,E` (R166) -/
  | adcAE
  /-- 8C `ADC A,H` (R166) -/
  | adcAH
  /-- 8D `ADC A,L` (R166) -/
  | adcAL
  /-- 8E `ADC A,(HL)` (R167) -/
  | adcAAtHl
  /-- 8F `ADC A,A` (R166) -/
  | adcAA
  /-- 90 `SUB B` (R169) -/
  | subB
  /-- 91 `SUB C` (R169) -/
  | subC
  /-- 92 `SUB D` (R169) -/
  | subD
  /-- 93 `SUB E` (R169) -/
  | subE
  /-- 94 `SUB H` (R169) -/
  | subH
  /-- 95 `SUB L` (R169) -/
  | subL
  /-- 96 `SUB (HL)` (R170) -/
  | subAtHl
  /-- 97 `SUB A` (R169) -/
  | subA
  /-- 98 `SBC A,B` (R172) -/
  | sbcAB
  /-- 99 `SBC A,C` (R172) -/
  | sbcAC
  /-- 9A `SBC A,D` (R172) -/
  | sbcAD
  /-- 9B `SBC A,E` (R172) -/
  | sbcAE
  /-- 9C `SBC A,H` (R172) -/
  | sbcAH
  /-- 9D `SBC A,L` (R172) -/
  | sbcAL
  /-- 9E `SBC A,(HL)` (R173) -/
  | sbcAAtHl
  /-- 9F `SBC A,A` (R172) -/
  | sbcAA
  /-- A0 `AND B` (R175) -/
  | andB
  /-- A1 `AND C` (R175) -/
  | andC
  /-- A2 `AND D` (R175) -/
  | andD
  /-- A3 `AND E` (R175) -/
  | andE
  /-- A4 `AND H` (R175) -/
  | andH
  /-- A5 `AND L` (R175) -/
  | andL
  /-- A6 `AND (HL)` (R176) -/
  | andAtHl
  /-- A7 `AND A` (R175) -/
  | andA
  /-- A8 `XOR B` (R178) -/
  | xorB
  /-- A9 `XOR C` (R178) -/
  | xorC
  /-- AA `XOR D` (R178) -/
  | xorD
  /-- AB `XOR E` (R178) -/
  | xorE
  /-- AC `XOR H` (R178) -/
  | xorH
  /-- AD `XOR L` (R178) -/
  | xorL
  /-- AE `XOR (HL)` (R179) -/
  | xorAtHl
  /-- AF `XOR A` (R178) -/
  | xorA
  /-- B0 `OR B` (R181) -/
  | orB
  /-- B1 `OR C` (R181) -/
  | orC
  /-- B2 `OR D` (R181) -/
  | orD
  /-- B3 `OR E` (R181) -/
  | orE
  /-- B4 `OR H` (R181) -/
  | orH
  /-- B5 `OR L` (R181) -/
  | orL
  /-- B6 `OR (HL)` (R182) -/
  | orAtHl
  /-- B7 `OR A` (R181) -/
  | orA
  /-- B8 `CP B` (R184) -/
  | cpB
  /-- B9 `CP C` (R184) -/
  | cpC
  /-- BA `CP D` (R184) -/
  | cpD
  /-- BB `CP E` (R184) -/
  | cpE
  /-- BC `CP H` (R184) -/
  | cpH
  /-- BD `CP L` (R184) -/
  | cpL
  /-- BE `CP (HL)` (R185) -/
  | cpAtHl
  /-- BF `CP A` (R184) -/
  | cpA
  /-- C0 `RET NZ` (R259) -/
  | retNz
  /-- C1 `POP BC` (R143) -/
  | popBc
  /-- C5 `PUSH BC` (R142) -/
  | pushBc
  /-- C7 `RST 0x00` (R261) -/
  | rst00
  /-- C8 `RET Z` (R259) -/
  | retZ
  /-- C9 `RET` (R258) -/
  | ret
  /-- CF `RST 0x08` (R261) -/
  | rst08
  /-- D0 `RET NC` (R259) -/
  | retNc
  /-- D1 `POP DE` (R143) -/
  | popDe
  /-- D3 `(illegal)` (R286) -/
  | illegalD3
  /-- D5 `PUSH DE` (R142) -/
  | pushDe
  /-- D7 `RST 0x10` (R261) -/
  | rst10
  /-- D8 `RET C` (R259) -/
  | retC
  /-- D9 `RETI` (R260) -/
  | reti
  /-- DB `(illegal)` (R286) -/
  | illegalDB
  /-- DD `(illegal)` (R286) -/
  | illegalDD
  /-- DF `RST 0x18` (R261) -/
  | rst18
  /-- E1 `POP HL` (R143) -/
  | popHl
  /-- E2 `LDH (C),A` (R132) -/
  | ldhAtCA
  /-- E3 `(illegal)` (R286) -/
  | illegalE3
  /-- E4 `(illegal)` (R286) -/
  | illegalE4
  /-- E5 `PUSH HL` (R142) -/
  | pushHl
  /-- E7 `RST 0x20` (R261) -/
  | rst20
  /-- E9 `JP HL` (R253) -/
  | jpHl
  /-- EB `(illegal)` (R286) -/
  | illegalEB
  /-- EC `(illegal)` (R286) -/
  | illegalEC
  /-- ED `(illegal)` (R286) -/
  | illegalED
  /-- EF `RST 0x28` (R261) -/
  | rst28
  /-- F1 `POP AF` (R144) -/
  | popAf
  /-- F2 `LDH A,(C)` (R131) -/
  | ldhAAtC
  /-- F3 `DI` (R283) -/
  | di
  /-- F4 `(illegal)` (R286) -/
  | illegalF4
  /-- F5 `PUSH AF` (R142) -/
  | pushAf
  /-- F7 `RST 0x30` (R261) -/
  | rst30
  /-- F9 `LD SP,HL` (R141) -/
  | ldSpHl
  /-- FB `EI` (R284) -/
  | ei
  /-- FC `(illegal)` (R286) -/
  | illegalFC
  /-- FD `(illegal)` (R286) -/
  | illegalFD
  /-- FF `RST 0x38` (R261) -/
  | rst38
  /-- CB 00 `RLC B` (R225) -/
  | rlcB
  /-- CB 01 `RLC C` (R225) -/
  | rlcC
  /-- CB 02 `RLC D` (R225) -/
  | rlcD
  /-- CB 03 `RLC E` (R225) -/
  | rlcE
  /-- CB 04 `RLC H` (R225) -/
  | rlcH
  /-- CB 05 `RLC L` (R225) -/
  | rlcL
  /-- CB 06 `RLC (HL)` (R226) -/
  | rlcAtHl
  /-- CB 07 `RLC A` (R225) -/
  | rlcA
  /-- CB 08 `RRC B` (R227) -/
  | rrcB
  /-- CB 09 `RRC C` (R227) -/
  | rrcC
  /-- CB 0A `RRC D` (R227) -/
  | rrcD
  /-- CB 0B `RRC E` (R227) -/
  | rrcE
  /-- CB 0C `RRC H` (R227) -/
  | rrcH
  /-- CB 0D `RRC L` (R227) -/
  | rrcL
  /-- CB 0E `RRC (HL)` (R228) -/
  | rrcAtHl
  /-- CB 0F `RRC A` (R227) -/
  | rrcA
  /-- CB 10 `RL B` (R229) -/
  | rlB
  /-- CB 11 `RL C` (R229) -/
  | rlC
  /-- CB 12 `RL D` (R229) -/
  | rlD
  /-- CB 13 `RL E` (R229) -/
  | rlE
  /-- CB 14 `RL H` (R229) -/
  | rlH
  /-- CB 15 `RL L` (R229) -/
  | rlL
  /-- CB 16 `RL (HL)` (R230) -/
  | rlAtHl
  /-- CB 17 `RL A` (R229) -/
  | rlA
  /-- CB 18 `RR B` (R231) -/
  | rrB
  /-- CB 19 `RR C` (R231) -/
  | rrC
  /-- CB 1A `RR D` (R231) -/
  | rrD
  /-- CB 1B `RR E` (R231) -/
  | rrE
  /-- CB 1C `RR H` (R231) -/
  | rrH
  /-- CB 1D `RR L` (R231) -/
  | rrL
  /-- CB 1E `RR (HL)` (R232) -/
  | rrAtHl
  /-- CB 1F `RR A` (R231) -/
  | rrA
  /-- CB 20 `SLA B` (R233) -/
  | slaB
  /-- CB 21 `SLA C` (R233) -/
  | slaC
  /-- CB 22 `SLA D` (R233) -/
  | slaD
  /-- CB 23 `SLA E` (R233) -/
  | slaE
  /-- CB 24 `SLA H` (R233) -/
  | slaH
  /-- CB 25 `SLA L` (R233) -/
  | slaL
  /-- CB 26 `SLA (HL)` (R234) -/
  | slaAtHl
  /-- CB 27 `SLA A` (R233) -/
  | slaA
  /-- CB 28 `SRA B` (R235) -/
  | sraB
  /-- CB 29 `SRA C` (R235) -/
  | sraC
  /-- CB 2A `SRA D` (R235) -/
  | sraD
  /-- CB 2B `SRA E` (R235) -/
  | sraE
  /-- CB 2C `SRA H` (R235) -/
  | sraH
  /-- CB 2D `SRA L` (R235) -/
  | sraL
  /-- CB 2E `SRA (HL)` (R236) -/
  | sraAtHl
  /-- CB 2F `SRA A` (R235) -/
  | sraA
  /-- CB 30 `SWAP B` (R237) -/
  | swapB
  /-- CB 31 `SWAP C` (R237) -/
  | swapC
  /-- CB 32 `SWAP D` (R237) -/
  | swapD
  /-- CB 33 `SWAP E` (R237) -/
  | swapE
  /-- CB 34 `SWAP H` (R237) -/
  | swapH
  /-- CB 35 `SWAP L` (R237) -/
  | swapL
  /-- CB 36 `SWAP (HL)` (R238) -/
  | swapAtHl
  /-- CB 37 `SWAP A` (R237) -/
  | swapA
  /-- CB 38 `SRL B` (R239) -/
  | srlB
  /-- CB 39 `SRL C` (R239) -/
  | srlC
  /-- CB 3A `SRL D` (R239) -/
  | srlD
  /-- CB 3B `SRL E` (R239) -/
  | srlE
  /-- CB 3C `SRL H` (R239) -/
  | srlH
  /-- CB 3D `SRL L` (R239) -/
  | srlL
  /-- CB 3E `SRL (HL)` (R240) -/
  | srlAtHl
  /-- CB 3F `SRL A` (R239) -/
  | srlA
  /-- CB 40 `BIT 0,B` (R241) -/
  | bit0B
  /-- CB 41 `BIT 0,C` (R241) -/
  | bit0C
  /-- CB 42 `BIT 0,D` (R241) -/
  | bit0D
  /-- CB 43 `BIT 0,E` (R241) -/
  | bit0E
  /-- CB 44 `BIT 0,H` (R241) -/
  | bit0H
  /-- CB 45 `BIT 0,L` (R241) -/
  | bit0L
  /-- CB 46 `BIT 0,(HL)` (R242) -/
  | bit0AtHl
  /-- CB 47 `BIT 0,A` (R241) -/
  | bit0A
  /-- CB 48 `BIT 1,B` (R241) -/
  | bit1B
  /-- CB 49 `BIT 1,C` (R241) -/
  | bit1C
  /-- CB 4A `BIT 1,D` (R241) -/
  | bit1D
  /-- CB 4B `BIT 1,E` (R241) -/
  | bit1E
  /-- CB 4C `BIT 1,H` (R241) -/
  | bit1H
  /-- CB 4D `BIT 1,L` (R241) -/
  | bit1L
  /-- CB 4E `BIT 1,(HL)` (R242) -/
  | bit1AtHl
  /-- CB 4F `BIT 1,A` (R241) -/
  | bit1A
  /-- CB 50 `BIT 2,B` (R241) -/
  | bit2B
  /-- CB 51 `BIT 2,C` (R241) -/
  | bit2C
  /-- CB 52 `BIT 2,D` (R241) -/
  | bit2D
  /-- CB 53 `BIT 2,E` (R241) -/
  | bit2E
  /-- CB 54 `BIT 2,H` (R241) -/
  | bit2H
  /-- CB 55 `BIT 2,L` (R241) -/
  | bit2L
  /-- CB 56 `BIT 2,(HL)` (R242) -/
  | bit2AtHl
  /-- CB 57 `BIT 2,A` (R241) -/
  | bit2A
  /-- CB 58 `BIT 3,B` (R241) -/
  | bit3B
  /-- CB 59 `BIT 3,C` (R241) -/
  | bit3C
  /-- CB 5A `BIT 3,D` (R241) -/
  | bit3D
  /-- CB 5B `BIT 3,E` (R241) -/
  | bit3E
  /-- CB 5C `BIT 3,H` (R241) -/
  | bit3H
  /-- CB 5D `BIT 3,L` (R241) -/
  | bit3L
  /-- CB 5E `BIT 3,(HL)` (R242) -/
  | bit3AtHl
  /-- CB 5F `BIT 3,A` (R241) -/
  | bit3A
  /-- CB 60 `BIT 4,B` (R241) -/
  | bit4B
  /-- CB 61 `BIT 4,C` (R241) -/
  | bit4C
  /-- CB 62 `BIT 4,D` (R241) -/
  | bit4D
  /-- CB 63 `BIT 4,E` (R241) -/
  | bit4E
  /-- CB 64 `BIT 4,H` (R241) -/
  | bit4H
  /-- CB 65 `BIT 4,L` (R241) -/
  | bit4L
  /-- CB 66 `BIT 4,(HL)` (R242) -/
  | bit4AtHl
  /-- CB 67 `BIT 4,A` (R241) -/
  | bit4A
  /-- CB 68 `BIT 5,B` (R241) -/
  | bit5B
  /-- CB 69 `BIT 5,C` (R241) -/
  | bit5C
  /-- CB 6A `BIT 5,D` (R241) -/
  | bit5D
  /-- CB 6B `BIT 5,E` (R241) -/
  | bit5E
  /-- CB 6C `BIT 5,H` (R241) -/
  | bit5H
  /-- CB 6D `BIT 5,L` (R241) -/
  | bit5L
  /-- CB 6E `BIT 5,(HL)` (R242) -/
  | bit5AtHl
  /-- CB 6F `BIT 5,A` (R241) -/
  | bit5A
  /-- CB 70 `BIT 6,B` (R241) -/
  | bit6B
  /-- CB 71 `BIT 6,C` (R241) -/
  | bit6C
  /-- CB 72 `BIT 6,D` (R241) -/
  | bit6D
  /-- CB 73 `BIT 6,E` (R241) -/
  | bit6E
  /-- CB 74 `BIT 6,H` (R241) -/
  | bit6H
  /-- CB 75 `BIT 6,L` (R241) -/
  | bit6L
  /-- CB 76 `BIT 6,(HL)` (R242) -/
  | bit6AtHl
  /-- CB 77 `BIT 6,A` (R241) -/
  | bit6A
  /-- CB 78 `BIT 7,B` (R241) -/
  | bit7B
  /-- CB 79 `BIT 7,C` (R241) -/
  | bit7C
  /-- CB 7A `BIT 7,D` (R241) -/
  | bit7D
  /-- CB 7B `BIT 7,E` (R241) -/
  | bit7E
  /-- CB 7C `BIT 7,H` (R241) -/
  | bit7H
  /-- CB 7D `BIT 7,L` (R241) -/
  | bit7L
  /-- CB 7E `BIT 7,(HL)` (R242) -/
  | bit7AtHl
  /-- CB 7F `BIT 7,A` (R241) -/
  | bit7A
  /-- CB 80 `RES 0,B` (R243) -/
  | res0B
  /-- CB 81 `RES 0,C` (R243) -/
  | res0C
  /-- CB 82 `RES 0,D` (R243) -/
  | res0D
  /-- CB 83 `RES 0,E` (R243) -/
  | res0E
  /-- CB 84 `RES 0,H` (R243) -/
  | res0H
  /-- CB 85 `RES 0,L` (R243) -/
  | res0L
  /-- CB 86 `RES 0,(HL)` (R244) -/
  | res0AtHl
  /-- CB 87 `RES 0,A` (R243) -/
  | res0A
  /-- CB 88 `RES 1,B` (R243) -/
  | res1B
  /-- CB 89 `RES 1,C` (R243) -/
  | res1C
  /-- CB 8A `RES 1,D` (R243) -/
  | res1D
  /-- CB 8B `RES 1,E` (R243) -/
  | res1E
  /-- CB 8C `RES 1,H` (R243) -/
  | res1H
  /-- CB 8D `RES 1,L` (R243) -/
  | res1L
  /-- CB 8E `RES 1,(HL)` (R244) -/
  | res1AtHl
  /-- CB 8F `RES 1,A` (R243) -/
  | res1A
  /-- CB 90 `RES 2,B` (R243) -/
  | res2B
  /-- CB 91 `RES 2,C` (R243) -/
  | res2C
  /-- CB 92 `RES 2,D` (R243) -/
  | res2D
  /-- CB 93 `RES 2,E` (R243) -/
  | res2E
  /-- CB 94 `RES 2,H` (R243) -/
  | res2H
  /-- CB 95 `RES 2,L` (R243) -/
  | res2L
  /-- CB 96 `RES 2,(HL)` (R244) -/
  | res2AtHl
  /-- CB 97 `RES 2,A` (R243) -/
  | res2A
  /-- CB 98 `RES 3,B` (R243) -/
  | res3B
  /-- CB 99 `RES 3,C` (R243) -/
  | res3C
  /-- CB 9A `RES 3,D` (R243) -/
  | res3D
  /-- CB 9B `RES 3,E` (R243) -/
  | res3E
  /-- CB 9C `RES 3,H` (R243) -/
  | res3H
  /-- CB 9D `RES 3,L` (R243) -/
  | res3L
  /-- CB 9E `RES 3,(HL)` (R244) -/
  | res3AtHl
  /-- CB 9F `RES 3,A` (R243) -/
  | res3A
  /-- CB A0 `RES 4,B` (R243) -/
  | res4B
  /-- CB A1 `RES 4,C` (R243) -/
  | res4C
  /-- CB A2 `RES 4,D` (R243) -/
  | res4D
  /-- CB A3 `RES 4,E` (R243) -/
  | res4E
  /-- CB A4 `RES 4,H` (R243) -/
  | res4H
  /-- CB A5 `RES 4,L` (R243) -/
  | res4L
  /-- CB A6 `RES 4,(HL)` (R244) -/
  | res4AtHl
  /-- CB A7 `RES 4,A` (R243) -/
  | res4A
  /-- CB A8 `RES 5,B` (R243) -/
  | res5B
  /-- CB A9 `RES 5,C` (R243) -/
  | res5C
  /-- CB AA `RES 5,D` (R243) -/
  | res5D
  /-- CB AB `RES 5,E` (R243) -/
  | res5E
  /-- CB AC `RES 5,H` (R243) -/
  | res5H
  /-- CB AD `RES 5,L` (R243) -/
  | res5L
  /-- CB AE `RES 5,(HL)` (R244) -/
  | res5AtHl
  /-- CB AF `RES 5,A` (R243) -/
  | res5A
  /-- CB B0 `RES 6,B` (R243) -/
  | res6B
  /-- CB B1 `RES 6,C` (R243) -/
  | res6C
  /-- CB B2 `RES 6,D` (R243) -/
  | res6D
  /-- CB B3 `RES 6,E` (R243) -/
  | res6E
  /-- CB B4 `RES 6,H` (R243) -/
  | res6H
  /-- CB B5 `RES 6,L` (R243) -/
  | res6L
  /-- CB B6 `RES 6,(HL)` (R244) -/
  | res6AtHl
  /-- CB B7 `RES 6,A` (R243) -/
  | res6A
  /-- CB B8 `RES 7,B` (R243) -/
  | res7B
  /-- CB B9 `RES 7,C` (R243) -/
  | res7C
  /-- CB BA `RES 7,D` (R243) -/
  | res7D
  /-- CB BB `RES 7,E` (R243) -/
  | res7E
  /-- CB BC `RES 7,H` (R243) -/
  | res7H
  /-- CB BD `RES 7,L` (R243) -/
  | res7L
  /-- CB BE `RES 7,(HL)` (R244) -/
  | res7AtHl
  /-- CB BF `RES 7,A` (R243) -/
  | res7A
  /-- CB C0 `SET 0,B` (R245) -/
  | set0B
  /-- CB C1 `SET 0,C` (R245) -/
  | set0C
  /-- CB C2 `SET 0,D` (R245) -/
  | set0D
  /-- CB C3 `SET 0,E` (R245) -/
  | set0E
  /-- CB C4 `SET 0,H` (R245) -/
  | set0H
  /-- CB C5 `SET 0,L` (R245) -/
  | set0L
  /-- CB C6 `SET 0,(HL)` (R246) -/
  | set0AtHl
  /-- CB C7 `SET 0,A` (R245) -/
  | set0A
  /-- CB C8 `SET 1,B` (R245) -/
  | set1B
  /-- CB C9 `SET 1,C` (R245) -/
  | set1C
  /-- CB CA `SET 1,D` (R245) -/
  | set1D
  /-- CB CB `SET 1,E` (R245) -/
  | set1E
  /-- CB CC `SET 1,H` (R245) -/
  | set1H
  /-- CB CD `SET 1,L` (R245) -/
  | set1L
  /-- CB CE `SET 1,(HL)` (R246) -/
  | set1AtHl
  /-- CB CF `SET 1,A` (R245) -/
  | set1A
  /-- CB D0 `SET 2,B` (R245) -/
  | set2B
  /-- CB D1 `SET 2,C` (R245) -/
  | set2C
  /-- CB D2 `SET 2,D` (R245) -/
  | set2D
  /-- CB D3 `SET 2,E` (R245) -/
  | set2E
  /-- CB D4 `SET 2,H` (R245) -/
  | set2H
  /-- CB D5 `SET 2,L` (R245) -/
  | set2L
  /-- CB D6 `SET 2,(HL)` (R246) -/
  | set2AtHl
  /-- CB D7 `SET 2,A` (R245) -/
  | set2A
  /-- CB D8 `SET 3,B` (R245) -/
  | set3B
  /-- CB D9 `SET 3,C` (R245) -/
  | set3C
  /-- CB DA `SET 3,D` (R245) -/
  | set3D
  /-- CB DB `SET 3,E` (R245) -/
  | set3E
  /-- CB DC `SET 3,H` (R245) -/
  | set3H
  /-- CB DD `SET 3,L` (R245) -/
  | set3L
  /-- CB DE `SET 3,(HL)` (R246) -/
  | set3AtHl
  /-- CB DF `SET 3,A` (R245) -/
  | set3A
  /-- CB E0 `SET 4,B` (R245) -/
  | set4B
  /-- CB E1 `SET 4,C` (R245) -/
  | set4C
  /-- CB E2 `SET 4,D` (R245) -/
  | set4D
  /-- CB E3 `SET 4,E` (R245) -/
  | set4E
  /-- CB E4 `SET 4,H` (R245) -/
  | set4H
  /-- CB E5 `SET 4,L` (R245) -/
  | set4L
  /-- CB E6 `SET 4,(HL)` (R246) -/
  | set4AtHl
  /-- CB E7 `SET 4,A` (R245) -/
  | set4A
  /-- CB E8 `SET 5,B` (R245) -/
  | set5B
  /-- CB E9 `SET 5,C` (R245) -/
  | set5C
  /-- CB EA `SET 5,D` (R245) -/
  | set5D
  /-- CB EB `SET 5,E` (R245) -/
  | set5E
  /-- CB EC `SET 5,H` (R245) -/
  | set5H
  /-- CB ED `SET 5,L` (R245) -/
  | set5L
  /-- CB EE `SET 5,(HL)` (R246) -/
  | set5AtHl
  /-- CB EF `SET 5,A` (R245) -/
  | set5A
  /-- CB F0 `SET 6,B` (R245) -/
  | set6B
  /-- CB F1 `SET 6,C` (R245) -/
  | set6C
  /-- CB F2 `SET 6,D` (R245) -/
  | set6D
  /-- CB F3 `SET 6,E` (R245) -/
  | set6E
  /-- CB F4 `SET 6,H` (R245) -/
  | set6H
  /-- CB F5 `SET 6,L` (R245) -/
  | set6L
  /-- CB F6 `SET 6,(HL)` (R246) -/
  | set6AtHl
  /-- CB F7 `SET 6,A` (R245) -/
  | set6A
  /-- CB F8 `SET 7,B` (R245) -/
  | set7B
  /-- CB F9 `SET 7,C` (R245) -/
  | set7C
  /-- CB FA `SET 7,D` (R245) -/
  | set7D
  /-- CB FB `SET 7,E` (R245) -/
  | set7E
  /-- CB FC `SET 7,H` (R245) -/
  | set7H
  /-- CB FD `SET 7,L` (R245) -/
  | set7L
  /-- CB FE `SET 7,(HL)` (R246) -/
  | set7AtHl
  /-- CB FF `SET 7,A` (R245) -/
  | set7A
deriving DecidableEq, Repr

end Sys2Proof
end

