-- ==== Sys2Proof/WellFormed.lean ====
section
/-! DEFINITION. Which instructions are well formed. Operand ranges are in the types (a byte, a word, a bit
index below 8), so one check is left: the canonical name of each instruction word. -/

namespace Sys2Proof

/-- An instruction is well formed when it is the canonical name of its words. The row PREFIX CB names the
words CB ss, which R101 decodes to a CB row; "Prefix and sub-opcode form one instruction" (R285), so the CB
row is the canonical name and `prefixCb` is not (log entry 5). -/
def WellFormed (i : Instr) : Bool :=
  match i with
  | .prefixCb _ => false
  | _ => true

end Sys2Proof
end

