-- ==== Sys2Proof/Decode.lean ====
section
/-! DEFINITION. Instruction words: the decoder (R91 to R107), total on any bytes, and after it the encoder,
both written from the spec's encoding tables; and the byte-order and sign-extension helpers they share with
the machine. -/

namespace Sys2Proof

/-! ## Bytes and words (R8, R9, R75) -/

/-- `{hi, lo}`: the 16-bit value with `hi` as its high byte (R8). -/
def ofHiLo (hi lo : Byte) : Word := hi ++ lo

/-- `v[15:8]`. -/
def hiByte (v : Word) : Byte := v.extractLsb' 8 8

/-- `v[7:0]`. -/
def loByte (v : Word) : Byte := v.extractLsb' 0 8

/-- `sext_16(v)` (R9). -/
def sext16 (v : Byte) : Word := v.signExtend 16

/-- `zext_16(v)` (R9). -/
def zext16 (v : Byte) : Word := v.setWidth 16

/-! ## From fields to rows: the cells of the opcode maps (R100, R101) -/

/-- Picks the row of a 3-bit index. -/
def pick8 (k : Fin 8) (x0 x1 x2 x3 x4 x5 x6 x7 : Instr) : Instr :=
  match k.val with
  | 0 => x0
  | 1 => x1
  | 2 => x2
  | 3 => x3
  | 4 => x4
  | 5 => x5
  | 6 => x6
  | _ => x7

/-- `LD r, r'` (R120). -/
def rowLdRegReg : Reg8 → Reg8 → Instr
  | .b, .b => .ldBB
  | .b, .c => .ldBC
  | .b, .d => .ldBD
  | .b, .e => .ldBE
  | .b, .h => .ldBH
  | .b, .l => .ldBL
  | .b, .a => .ldBA
  | .c, .b => .ldCB
  | .c, .c => .ldCC
  | .c, .d => .ldCD
  | .c, .e => .ldCE
  | .c, .h => .ldCH
  | .c, .l => .ldCL
  | .c, .a => .ldCA
  | .d, .b => .ldDB
  | .d, .c => .ldDC
  | .d, .d => .ldDD
  | .d, .e => .ldDE
  | .d, .h => .ldDH
  | .d, .l => .ldDL
  | .d, .a => .ldDA
  | .e, .b => .ldEB
  | .e, .c => .ldEC
  | .e, .d => .ldED
  | .e, .e => .ldEE
  | .e, .h => .ldEH
  | .e, .l => .ldEL
  | .e, .a => .ldEA
  | .h, .b => .ldHB
  | .h, .c => .ldHC
  | .h, .d => .ldHD
  | .h, .e => .ldHE
  | .h, .h => .ldHH
  | .h, .l => .ldHL
  | .h, .a => .ldHA
  | .l, .b => .ldLB
  | .l, .c => .ldLC
  | .l, .d => .ldLD
  | .l, .e => .ldLE
  | .l, .h => .ldLH
  | .l, .l => .ldLL
  | .l, .a => .ldLA
  | .a, .b => .ldAB
  | .a, .c => .ldAC
  | .a, .d => .ldAD
  | .a, .e => .ldAE
  | .a, .h => .ldAH
  | .a, .l => .ldAL
  | .a, .a => .ldAA

/-- `LD r, n8` (R121). -/
def rowLdRegImm : Reg8 → Byte → Instr
  | .b, n8 => .ldBN8 n8
  | .c, n8 => .ldCN8 n8
  | .d, n8 => .ldDN8 n8
  | .e, n8 => .ldEN8 n8
  | .h, n8 => .ldHN8 n8
  | .l, n8 => .ldLN8 n8
  | .a, n8 => .ldAN8 n8

/-- `LD r, (HL)` (R122). -/
def rowLdRegAtHl : Reg8 → Instr
  | .b => .ldBAtHl
  | .c => .ldCAtHl
  | .d => .ldDAtHl
  | .e => .ldEAtHl
  | .h => .ldHAtHl
  | .l => .ldLAtHl
  | .a => .ldAAtHl

/-- `LD (HL), r` (R123). -/
def rowLdAtHlReg : Reg8 → Instr
  | .b => .ldAtHlB
  | .c => .ldAtHlC
  | .d => .ldAtHlD
  | .e => .ldAtHlE
  | .h => .ldAtHlH
  | .l => .ldAtHlL
  | .a => .ldAtHlA

/-- The eight ALU operations in their three operand forms (R160). -/
def rowAlu : AluOp → AluSrc → Instr
  | .add, .reg .b => .addAB
  | .add, .reg .c => .addAC
  | .add, .reg .d => .addAD
  | .add, .reg .e => .addAE
  | .add, .reg .h => .addAH
  | .add, .reg .l => .addAL
  | .add, .reg .a => .addAA
  | .adc, .reg .b => .adcAB
  | .adc, .reg .c => .adcAC
  | .adc, .reg .d => .adcAD
  | .adc, .reg .e => .adcAE
  | .adc, .reg .h => .adcAH
  | .adc, .reg .l => .adcAL
  | .adc, .reg .a => .adcAA
  | .sub, .reg .b => .subB
  | .sub, .reg .c => .subC
  | .sub, .reg .d => .subD
  | .sub, .reg .e => .subE
  | .sub, .reg .h => .subH
  | .sub, .reg .l => .subL
  | .sub, .reg .a => .subA
  | .sbc, .reg .b => .sbcAB
  | .sbc, .reg .c => .sbcAC
  | .sbc, .reg .d => .sbcAD
  | .sbc, .reg .e => .sbcAE
  | .sbc, .reg .h => .sbcAH
  | .sbc, .reg .l => .sbcAL
  | .sbc, .reg .a => .sbcAA
  | .and, .reg .b => .andB
  | .and, .reg .c => .andC
  | .and, .reg .d => .andD
  | .and, .reg .e => .andE
  | .and, .reg .h => .andH
  | .and, .reg .l => .andL
  | .and, .reg .a => .andA
  | .xor, .reg .b => .xorB
  | .xor, .reg .c => .xorC
  | .xor, .reg .d => .xorD
  | .xor, .reg .e => .xorE
  | .xor, .reg .h => .xorH
  | .xor, .reg .l => .xorL
  | .xor, .reg .a => .xorA
  | .or, .reg .b => .orB
  | .or, .reg .c => .orC
  | .or, .reg .d => .orD
  | .or, .reg .e => .orE
  | .or, .reg .h => .orH
  | .or, .reg .l => .orL
  | .or, .reg .a => .orA
  | .cp, .reg .b => .cpB
  | .cp, .reg .c => .cpC
  | .cp, .reg .d => .cpD
  | .cp, .reg .e => .cpE
  | .cp, .reg .h => .cpH
  | .cp, .reg .l => .cpL
  | .cp, .reg .a => .cpA
  | .add, .atHl => .addAAtHl
  | .adc, .atHl => .adcAAtHl
  | .sub, .atHl => .subAtHl
  | .sbc, .atHl => .sbcAAtHl
  | .and, .atHl => .andAtHl
  | .xor, .atHl => .xorAtHl
  | .or, .atHl => .orAtHl
  | .cp, .atHl => .cpAtHl
  | .add, .imm n8 => .addAN8 n8
  | .adc, .imm n8 => .adcAN8 n8
  | .sub, .imm n8 => .subN8 n8
  | .sbc, .imm n8 => .sbcAN8 n8
  | .and, .imm n8 => .andN8 n8
  | .xor, .imm n8 => .xorN8 n8
  | .or, .imm n8 => .orN8 n8
  | .cp, .imm n8 => .cpN8 n8

/-- `INC` of a register or of (HL) (R187, R188). -/
def rowInc : Loc8 → Instr
  | .reg .b => .incB
  | .reg .c => .incC
  | .reg .d => .incD
  | .reg .e => .incE
  | .reg .h => .incH
  | .reg .l => .incL
  | .reg .a => .incA
  | .atHl => .incAtHl

/-- `DEC` of a register or of (HL) (R189, R190). -/
def rowDec : Loc8 → Instr
  | .reg .b => .decB
  | .reg .c => .decC
  | .reg .d => .decD
  | .reg .e => .decE
  | .reg .h => .decH
  | .reg .l => .decL
  | .reg .a => .decA
  | .atHl => .decAtHl

/-- `LD rr, n16` (R139). -/
def rowLdPairImm : Pair → Word → Instr
  | .bc, n16 => .ldBcN16 n16
  | .de, n16 => .ldDeN16 n16
  | .hl, n16 => .ldHlN16 n16
  | .sp, n16 => .ldSpN16 n16

/-- `ADD HL, rr` (R201). -/
def rowAddHl : Pair → Instr
  | .bc => .addHlBc
  | .de => .addHlDe
  | .hl => .addHlHl
  | .sp => .addHlSp

/-- `INC rr` (R202). -/
def rowIncPair : Pair → Instr
  | .bc => .incBc
  | .de => .incDe
  | .hl => .incHl
  | .sp => .incSp

/-- `DEC rr` (R203). -/
def rowDecPair : Pair → Instr
  | .bc => .decBc
  | .de => .decDe
  | .hl => .decHl
  | .sp => .decSp

/-- `PUSH rr` (R142). -/
def rowPush : StackPair → Instr
  | .bc => .pushBc
  | .de => .pushDe
  | .hl => .pushHl
  | .af => .pushAf

/-- `POP rr` (R143, R144). -/
def rowPop : StackPair → Instr
  | .bc => .popBc
  | .de => .popDe
  | .hl => .popHl
  | .af => .popAf

/-- `JP cc, a16` (R252). -/
def rowJpCc : Cond → Word → Instr
  | .nz, a16 => .jpNzA16 a16
  | .z, a16 => .jpZA16 a16
  | .nc, a16 => .jpNcA16 a16
  | .c, a16 => .jpCA16 a16

/-- `CALL cc, a16` (R257). -/
def rowCallCc : Cond → Word → Instr
  | .nz, a16 => .callNzA16 a16
  | .z, a16 => .callZA16 a16
  | .nc, a16 => .callNcA16 a16
  | .c, a16 => .callCA16 a16

/-- `JR cc, e8` (R255). -/
def rowJrCc : Cond → Byte → Instr
  | .nz, e8 => .jrNzE8 e8
  | .z, e8 => .jrZE8 e8
  | .nc, e8 => .jrNcE8 e8
  | .c, e8 => .jrCE8 e8

/-- `RET cc` (R259). -/
def rowRetCc : Cond → Instr
  | .nz => .retNz
  | .z => .retZ
  | .nc => .retNc
  | .c => .retC

/-- The rotates and shifts of class 0 (R102, R225 to R240). -/
def rowRot : RotOp → Loc8 → Instr
  | .rlc, .reg .b => .rlcB
  | .rlc, .reg .c => .rlcC
  | .rlc, .reg .d => .rlcD
  | .rlc, .reg .e => .rlcE
  | .rlc, .reg .h => .rlcH
  | .rlc, .reg .l => .rlcL
  | .rlc, .reg .a => .rlcA
  | .rrc, .reg .b => .rrcB
  | .rrc, .reg .c => .rrcC
  | .rrc, .reg .d => .rrcD
  | .rrc, .reg .e => .rrcE
  | .rrc, .reg .h => .rrcH
  | .rrc, .reg .l => .rrcL
  | .rrc, .reg .a => .rrcA
  | .rl, .reg .b => .rlB
  | .rl, .reg .c => .rlC
  | .rl, .reg .d => .rlD
  | .rl, .reg .e => .rlE
  | .rl, .reg .h => .rlH
  | .rl, .reg .l => .rlL
  | .rl, .reg .a => .rlA
  | .rr, .reg .b => .rrB
  | .rr, .reg .c => .rrC
  | .rr, .reg .d => .rrD
  | .rr, .reg .e => .rrE
  | .rr, .reg .h => .rrH
  | .rr, .reg .l => .rrL
  | .rr, .reg .a => .rrA
  | .sla, .reg .b => .slaB
  | .sla, .reg .c => .slaC
  | .sla, .reg .d => .slaD
  | .sla, .reg .e => .slaE
  | .sla, .reg .h => .slaH
  | .sla, .reg .l => .slaL
  | .sla, .reg .a => .slaA
  | .sra, .reg .b => .sraB
  | .sra, .reg .c => .sraC
  | .sra, .reg .d => .sraD
  | .sra, .reg .e => .sraE
  | .sra, .reg .h => .sraH
  | .sra, .reg .l => .sraL
  | .sra, .reg .a => .sraA
  | .swap, .reg .b => .swapB
  | .swap, .reg .c => .swapC
  | .swap, .reg .d => .swapD
  | .swap, .reg .e => .swapE
  | .swap, .reg .h => .swapH
  | .swap, .reg .l => .swapL
  | .swap, .reg .a => .swapA
  | .srl, .reg .b => .srlB
  | .srl, .reg .c => .srlC
  | .srl, .reg .d => .srlD
  | .srl, .reg .e => .srlE
  | .srl, .reg .h => .srlH
  | .srl, .reg .l => .srlL
  | .srl, .reg .a => .srlA
  | .rlc, .atHl => .rlcAtHl
  | .rrc, .atHl => .rrcAtHl
  | .rl, .atHl => .rlAtHl
  | .rr, .atHl => .rrAtHl
  | .sla, .atHl => .slaAtHl
  | .sra, .atHl => .sraAtHl
  | .swap, .atHl => .swapAtHl
  | .srl, .atHl => .srlAtHl

/-- `BIT b` of a register or of (HL) (R241, R242). -/
def rowBit (k : Fin 8) : Loc8 → Instr
  | .reg .b => pick8 k .bit0B .bit1B .bit2B .bit3B .bit4B .bit5B .bit6B .bit7B
  | .reg .c => pick8 k .bit0C .bit1C .bit2C .bit3C .bit4C .bit5C .bit6C .bit7C
  | .reg .d => pick8 k .bit0D .bit1D .bit2D .bit3D .bit4D .bit5D .bit6D .bit7D
  | .reg .e => pick8 k .bit0E .bit1E .bit2E .bit3E .bit4E .bit5E .bit6E .bit7E
  | .reg .h => pick8 k .bit0H .bit1H .bit2H .bit3H .bit4H .bit5H .bit6H .bit7H
  | .reg .l => pick8 k .bit0L .bit1L .bit2L .bit3L .bit4L .bit5L .bit6L .bit7L
  | .reg .a => pick8 k .bit0A .bit1A .bit2A .bit3A .bit4A .bit5A .bit6A .bit7A
  | .atHl => pick8 k .bit0AtHl .bit1AtHl .bit2AtHl .bit3AtHl .bit4AtHl .bit5AtHl .bit6AtHl .bit7AtHl

/-- `RES b` of a register or of (HL) (R243, R244). -/
def rowRes (k : Fin 8) : Loc8 → Instr
  | .reg .b => pick8 k .res0B .res1B .res2B .res3B .res4B .res5B .res6B .res7B
  | .reg .c => pick8 k .res0C .res1C .res2C .res3C .res4C .res5C .res6C .res7C
  | .reg .d => pick8 k .res0D .res1D .res2D .res3D .res4D .res5D .res6D .res7D
  | .reg .e => pick8 k .res0E .res1E .res2E .res3E .res4E .res5E .res6E .res7E
  | .reg .h => pick8 k .res0H .res1H .res2H .res3H .res4H .res5H .res6H .res7H
  | .reg .l => pick8 k .res0L .res1L .res2L .res3L .res4L .res5L .res6L .res7L
  | .reg .a => pick8 k .res0A .res1A .res2A .res3A .res4A .res5A .res6A .res7A
  | .atHl => pick8 k .res0AtHl .res1AtHl .res2AtHl .res3AtHl .res4AtHl .res5AtHl .res6AtHl .res7AtHl

/-- `SET b` of a register or of (HL) (R245, R246). -/
def rowSet (k : Fin 8) : Loc8 → Instr
  | .reg .b => pick8 k .set0B .set1B .set2B .set3B .set4B .set5B .set6B .set7B
  | .reg .c => pick8 k .set0C .set1C .set2C .set3C .set4C .set5C .set6C .set7C
  | .reg .d => pick8 k .set0D .set1D .set2D .set3D .set4D .set5D .set6D .set7D
  | .reg .e => pick8 k .set0E .set1E .set2E .set3E .set4E .set5E .set6E .set7E
  | .reg .h => pick8 k .set0H .set1H .set2H .set3H .set4H .set5H .set6H .set7H
  | .reg .l => pick8 k .set0L .set1L .set2L .set3L .set4L .set5L .set6L .set7L
  | .reg .a => pick8 k .set0A .set1A .set2A .set3A .set4A .set5A .set6A .set7A
  | .atHl => pick8 k .set0AtHl .set1AtHl .set2AtHl .set3AtHl .set4AtHl .set5AtHl .set6AtHl .set7AtHl

/-- `RST t` with `t = y * 8` (R261). -/
def rowRst (y : Fin 8) : Instr :=
  pick8 y .rst00 .rst08 .rst10 .rst18 .rst20 .rst28 .rst30 .rst38

/-- The eleven unmapped opcodes (R103). -/
def rowIllegal : IllegalOp → Instr
  | .xD3 => .illegalD3
  | .xDB => .illegalDB
  | .xDD => .illegalDD
  | .xE3 => .illegalE3
  | .xE4 => .illegalE4
  | .xEB => .illegalEB
  | .xEC => .illegalEC
  | .xED => .illegalED
  | .xF4 => .illegalF4
  | .xFC => .illegalFC
  | .xFD => .illegalFD

/-- The row of a form: the cell of the opcode map that its fields select (R100, R101). -/
def Form.instr : Form → Instr
  | .nop => .nop
  | .halt => .halt
  | .stop => .stop
  | .di => .di
  | .ei => .ei
  | .daa => .daa
  | .cpl => .cpl
  | .scf => .scf
  | .ccf => .ccf
  | .rlca => .rlca
  | .rrca => .rrca
  | .rla => .rla
  | .rra => .rra
  | .ldRegReg dst src => rowLdRegReg dst src
  | .ldRegImm dst n8 => rowLdRegImm dst n8
  | .ldRegAtHl dst => rowLdRegAtHl dst
  | .ldAtHlReg src => rowLdAtHlReg src
  | .ldAtHlImm n8 => .ldAtHlN8 n8
  | .ldAAtPtr .bc => .ldAAtBc
  | .ldAAtPtr .de => .ldAAtDe
  | .ldAtPtrA .bc => .ldAtBcA
  | .ldAtPtrA .de => .ldAtDeA
  | .ldAAtA16 a16 => .ldAAtA16 a16
  | .ldAtA16A a16 => .ldAtA16A a16
  | .ldhAAtC => .ldhAAtC
  | .ldhAtCA => .ldhAtCA
  | .ldhAAtA8 a8 => .ldhAAtA8 a8
  | .ldhAtA8A a8 => .ldhAtA8A a8
  | .ldAAtHlInc => .ldAAtHlInc
  | .ldAAtHlDec => .ldAAtHlDec
  | .ldAtHlIncA => .ldAtHlIncA
  | .ldAtHlDecA => .ldAtHlDecA
  | .ldPairImm p n16 => rowLdPairImm p n16
  | .ldAtA16Sp a16 => .ldAtA16Sp a16
  | .ldSpHl => .ldSpHl
  | .ldHlSpE8 e8 => .ldHlSpE8 e8
  | .push p => rowPush p
  | .pop p => rowPop p
  | .alu op src => rowAlu op src
  | .inc x => rowInc x
  | .dec x => rowDec x
  | .addHl p => rowAddHl p
  | .incPair p => rowIncPair p
  | .decPair p => rowDecPair p
  | .addSpE8 e8 => .addSpE8 e8
  | .jp a16 => .jpA16 a16
  | .jpCc cc a16 => rowJpCc cc a16
  | .jpHl => .jpHl
  | .jr e8 => .jrE8 e8
  | .jrCc cc e8 => rowJrCc cc e8
  | .call a16 => .callA16 a16
  | .callCc cc a16 => rowCallCc cc a16
  | .ret => .ret
  | .retCc cc => rowRetCc cc
  | .reti => .reti
  | .rst y => rowRst y
  | .prefixCb sub => .prefixCb sub
  | .illegal op => rowIllegal op
  | .rot op x => rowRot op x
  | .bit k x => rowBit k x
  | .res k x => rowRes k x
  | .set k x => rowSet k x

/-- The form of a row: its operation and operand fields. -/
def Instr.form : Instr → Form
  | .nop => .nop
  | .ldBcN16 n16 => .ldPairImm .bc n16
  | .ldAtBcA => .ldAtPtrA .bc
  | .incBc => .incPair .bc
  | .incB => .inc (.reg .b)
  | .decB => .dec (.reg .b)
  | .ldBN8 n8 => .ldRegImm .b n8
  | .rlca => .rlca
  | .ldAtA16Sp a16 => .ldAtA16Sp a16
  | .addHlBc => .addHl .bc
  | .ldAAtBc => .ldAAtPtr .bc
  | .decBc => .decPair .bc
  | .incC => .inc (.reg .c)
  | .decC => .dec (.reg .c)
  | .ldCN8 n8 => .ldRegImm .c n8
  | .rrca => .rrca
  | .stop => .stop
  | .ldDeN16 n16 => .ldPairImm .de n16
  | .ldAtDeA => .ldAtPtrA .de
  | .incDe => .incPair .de
  | .incD => .inc (.reg .d)
  | .decD => .dec (.reg .d)
  | .ldDN8 n8 => .ldRegImm .d n8
  | .rla => .rla
  | .jrE8 e8 => .jr e8
  | .addHlDe => .addHl .de
  | .ldAAtDe => .ldAAtPtr .de
  | .decDe => .decPair .de
  | .incE => .inc (.reg .e)
  | .decE => .dec (.reg .e)
  | .ldEN8 n8 => .ldRegImm .e n8
  | .rra => .rra
  | .jrNzE8 e8 => .jrCc .nz e8
  | .ldHlN16 n16 => .ldPairImm .hl n16
  | .ldAtHlIncA => .ldAtHlIncA
  | .incHl => .incPair .hl
  | .incH => .inc (.reg .h)
  | .decH => .dec (.reg .h)
  | .ldHN8 n8 => .ldRegImm .h n8
  | .daa => .daa
  | .jrZE8 e8 => .jrCc .z e8
  | .addHlHl => .addHl .hl
  | .ldAAtHlInc => .ldAAtHlInc
  | .decHl => .decPair .hl
  | .incL => .inc (.reg .l)
  | .decL => .dec (.reg .l)
  | .ldLN8 n8 => .ldRegImm .l n8
  | .cpl => .cpl
  | .jrNcE8 e8 => .jrCc .nc e8
  | .ldSpN16 n16 => .ldPairImm .sp n16
  | .ldAtHlDecA => .ldAtHlDecA
  | .incSp => .incPair .sp
  | .incAtHl => .inc .atHl
  | .decAtHl => .dec .atHl
  | .ldAtHlN8 n8 => .ldAtHlImm n8
  | .scf => .scf
  | .jrCE8 e8 => .jrCc .c e8
  | .addHlSp => .addHl .sp
  | .ldAAtHlDec => .ldAAtHlDec
  | .decSp => .decPair .sp
  | .incA => .inc (.reg .a)
  | .decA => .dec (.reg .a)
  | .ldAN8 n8 => .ldRegImm .a n8
  | .ccf => .ccf
  | .ldBB => .ldRegReg .b .b
  | .ldBC => .ldRegReg .b .c
  | .ldBD => .ldRegReg .b .d
  | .ldBE => .ldRegReg .b .e
  | .ldBH => .ldRegReg .b .h
  | .ldBL => .ldRegReg .b .l
  | .ldBAtHl => .ldRegAtHl .b
  | .ldBA => .ldRegReg .b .a
  | .ldCB => .ldRegReg .c .b
  | .ldCC => .ldRegReg .c .c
  | .ldCD => .ldRegReg .c .d
  | .ldCE => .ldRegReg .c .e
  | .ldCH => .ldRegReg .c .h
  | .ldCL => .ldRegReg .c .l
  | .ldCAtHl => .ldRegAtHl .c
  | .ldCA => .ldRegReg .c .a
  | .ldDB => .ldRegReg .d .b
  | .ldDC => .ldRegReg .d .c
  | .ldDD => .ldRegReg .d .d
  | .ldDE => .ldRegReg .d .e
  | .ldDH => .ldRegReg .d .h
  | .ldDL => .ldRegReg .d .l
  | .ldDAtHl => .ldRegAtHl .d
  | .ldDA => .ldRegReg .d .a
  | .ldEB => .ldRegReg .e .b
  | .ldEC => .ldRegReg .e .c
  | .ldED => .ldRegReg .e .d
  | .ldEE => .ldRegReg .e .e
  | .ldEH => .ldRegReg .e .h
  | .ldEL => .ldRegReg .e .l
  | .ldEAtHl => .ldRegAtHl .e
  | .ldEA => .ldRegReg .e .a
  | .ldHB => .ldRegReg .h .b
  | .ldHC => .ldRegReg .h .c
  | .ldHD => .ldRegReg .h .d
  | .ldHE => .ldRegReg .h .e
  | .ldHH => .ldRegReg .h .h
  | .ldHL => .ldRegReg .h .l
  | .ldHAtHl => .ldRegAtHl .h
  | .ldHA => .ldRegReg .h .a
  | .ldLB => .ldRegReg .l .b
  | .ldLC => .ldRegReg .l .c
  | .ldLD => .ldRegReg .l .d
  | .ldLE => .ldRegReg .l .e
  | .ldLH => .ldRegReg .l .h
  | .ldLL => .ldRegReg .l .l
  | .ldLAtHl => .ldRegAtHl .l
  | .ldLA => .ldRegReg .l .a
  | .ldAtHlB => .ldAtHlReg .b
  | .ldAtHlC => .ldAtHlReg .c
  | .ldAtHlD => .ldAtHlReg .d
  | .ldAtHlE => .ldAtHlReg .e
  | .ldAtHlH => .ldAtHlReg .h
  | .ldAtHlL => .ldAtHlReg .l
  | .halt => .halt
  | .ldAtHlA => .ldAtHlReg .a
  | .ldAB => .ldRegReg .a .b
  | .ldAC => .ldRegReg .a .c
  | .ldAD => .ldRegReg .a .d
  | .ldAE => .ldRegReg .a .e
  | .ldAH => .ldRegReg .a .h
  | .ldAL => .ldRegReg .a .l
  | .ldAAtHl => .ldRegAtHl .a
  | .ldAA => .ldRegReg .a .a
  | .addAB => .alu .add (.reg .b)
  | .addAC => .alu .add (.reg .c)
  | .addAD => .alu .add (.reg .d)
  | .addAE => .alu .add (.reg .e)
  | .addAH => .alu .add (.reg .h)
  | .addAL => .alu .add (.reg .l)
  | .addAAtHl => .alu .add .atHl
  | .addAA => .alu .add (.reg .a)
  | .adcAB => .alu .adc (.reg .b)
  | .adcAC => .alu .adc (.reg .c)
  | .adcAD => .alu .adc (.reg .d)
  | .adcAE => .alu .adc (.reg .e)
  | .adcAH => .alu .adc (.reg .h)
  | .adcAL => .alu .adc (.reg .l)
  | .adcAAtHl => .alu .adc .atHl
  | .adcAA => .alu .adc (.reg .a)
  | .subB => .alu .sub (.reg .b)
  | .subC => .alu .sub (.reg .c)
  | .subD => .alu .sub (.reg .d)
  | .subE => .alu .sub (.reg .e)
  | .subH => .alu .sub (.reg .h)
  | .subL => .alu .sub (.reg .l)
  | .subAtHl => .alu .sub .atHl
  | .subA => .alu .sub (.reg .a)
  | .sbcAB => .alu .sbc (.reg .b)
  | .sbcAC => .alu .sbc (.reg .c)
  | .sbcAD => .alu .sbc (.reg .d)
  | .sbcAE => .alu .sbc (.reg .e)
  | .sbcAH => .alu .sbc (.reg .h)
  | .sbcAL => .alu .sbc (.reg .l)
  | .sbcAAtHl => .alu .sbc .atHl
  | .sbcAA => .alu .sbc (.reg .a)
  | .andB => .alu .and (.reg .b)
  | .andC => .alu .and (.reg .c)
  | .andD => .alu .and (.reg .d)
  | .andE => .alu .and (.reg .e)
  | .andH => .alu .and (.reg .h)
  | .andL => .alu .and (.reg .l)
  | .andAtHl => .alu .and .atHl
  | .andA => .alu .and (.reg .a)
  | .xorB => .alu .xor (.reg .b)
  | .xorC => .alu .xor (.reg .c)
  | .xorD => .alu .xor (.reg .d)
  | .xorE => .alu .xor (.reg .e)
  | .xorH => .alu .xor (.reg .h)
  | .xorL => .alu .xor (.reg .l)
  | .xorAtHl => .alu .xor .atHl
  | .xorA => .alu .xor (.reg .a)
  | .orB => .alu .or (.reg .b)
  | .orC => .alu .or (.reg .c)
  | .orD => .alu .or (.reg .d)
  | .orE => .alu .or (.reg .e)
  | .orH => .alu .or (.reg .h)
  | .orL => .alu .or (.reg .l)
  | .orAtHl => .alu .or .atHl
  | .orA => .alu .or (.reg .a)
  | .cpB => .alu .cp (.reg .b)
  | .cpC => .alu .cp (.reg .c)
  | .cpD => .alu .cp (.reg .d)
  | .cpE => .alu .cp (.reg .e)
  | .cpH => .alu .cp (.reg .h)
  | .cpL => .alu .cp (.reg .l)
  | .cpAtHl => .alu .cp .atHl
  | .cpA => .alu .cp (.reg .a)
  | .retNz => .retCc .nz
  | .popBc => .pop .bc
  | .jpNzA16 a16 => .jpCc .nz a16
  | .jpA16 a16 => .jp a16
  | .callNzA16 a16 => .callCc .nz a16
  | .pushBc => .push .bc
  | .addAN8 n8 => .alu .add (.imm n8)
  | .rst00 => .rst 0
  | .retZ => .retCc .z
  | .ret => .ret
  | .jpZA16 a16 => .jpCc .z a16
  | .prefixCb sub => .prefixCb sub
  | .callZA16 a16 => .callCc .z a16
  | .callA16 a16 => .call a16
  | .adcAN8 n8 => .alu .adc (.imm n8)
  | .rst08 => .rst 1
  | .retNc => .retCc .nc
  | .popDe => .pop .de
  | .jpNcA16 a16 => .jpCc .nc a16
  | .illegalD3 => .illegal .xD3
  | .callNcA16 a16 => .callCc .nc a16
  | .pushDe => .push .de
  | .subN8 n8 => .alu .sub (.imm n8)
  | .rst10 => .rst 2
  | .retC => .retCc .c
  | .reti => .reti
  | .jpCA16 a16 => .jpCc .c a16
  | .illegalDB => .illegal .xDB
  | .callCA16 a16 => .callCc .c a16
  | .illegalDD => .illegal .xDD
  | .sbcAN8 n8 => .alu .sbc (.imm n8)
  | .rst18 => .rst 3
  | .ldhAtA8A a8 => .ldhAtA8A a8
  | .popHl => .pop .hl
  | .ldhAtCA => .ldhAtCA
  | .illegalE3 => .illegal .xE3
  | .illegalE4 => .illegal .xE4
  | .pushHl => .push .hl
  | .andN8 n8 => .alu .and (.imm n8)
  | .rst20 => .rst 4
  | .addSpE8 e8 => .addSpE8 e8
  | .jpHl => .jpHl
  | .ldAtA16A a16 => .ldAtA16A a16
  | .illegalEB => .illegal .xEB
  | .illegalEC => .illegal .xEC
  | .illegalED => .illegal .xED
  | .xorN8 n8 => .alu .xor (.imm n8)
  | .rst28 => .rst 5
  | .ldhAAtA8 a8 => .ldhAAtA8 a8
  | .popAf => .pop .af
  | .ldhAAtC => .ldhAAtC
  | .di => .di
  | .illegalF4 => .illegal .xF4
  | .pushAf => .push .af
  | .orN8 n8 => .alu .or (.imm n8)
  | .rst30 => .rst 6
  | .ldHlSpE8 e8 => .ldHlSpE8 e8
  | .ldSpHl => .ldSpHl
  | .ldAAtA16 a16 => .ldAAtA16 a16
  | .ei => .ei
  | .illegalFC => .illegal .xFC
  | .illegalFD => .illegal .xFD
  | .cpN8 n8 => .alu .cp (.imm n8)
  | .rst38 => .rst 7
  | .rlcB => .rot .rlc (.reg .b)
  | .rlcC => .rot .rlc (.reg .c)
  | .rlcD => .rot .rlc (.reg .d)
  | .rlcE => .rot .rlc (.reg .e)
  | .rlcH => .rot .rlc (.reg .h)
  | .rlcL => .rot .rlc (.reg .l)
  | .rlcAtHl => .rot .rlc .atHl
  | .rlcA => .rot .rlc (.reg .a)
  | .rrcB => .rot .rrc (.reg .b)
  | .rrcC => .rot .rrc (.reg .c)
  | .rrcD => .rot .rrc (.reg .d)
  | .rrcE => .rot .rrc (.reg .e)
  | .rrcH => .rot .rrc (.reg .h)
  | .rrcL => .rot .rrc (.reg .l)
  | .rrcAtHl => .rot .rrc .atHl
  | .rrcA => .rot .rrc (.reg .a)
  | .rlB => .rot .rl (.reg .b)
  | .rlC => .rot .rl (.reg .c)
  | .rlD => .rot .rl (.reg .d)
  | .rlE => .rot .rl (.reg .e)
  | .rlH => .rot .rl (.reg .h)
  | .rlL => .rot .rl (.reg .l)
  | .rlAtHl => .rot .rl .atHl
  | .rlA => .rot .rl (.reg .a)
  | .rrB => .rot .rr (.reg .b)
  | .rrC => .rot .rr (.reg .c)
  | .rrD => .rot .rr (.reg .d)
  | .rrE => .rot .rr (.reg .e)
  | .rrH => .rot .rr (.reg .h)
  | .rrL => .rot .rr (.reg .l)
  | .rrAtHl => .rot .rr .atHl
  | .rrA => .rot .rr (.reg .a)
  | .slaB => .rot .sla (.reg .b)
  | .slaC => .rot .sla (.reg .c)
  | .slaD => .rot .sla (.reg .d)
  | .slaE => .rot .sla (.reg .e)
  | .slaH => .rot .sla (.reg .h)
  | .slaL => .rot .sla (.reg .l)
  | .slaAtHl => .rot .sla .atHl
  | .slaA => .rot .sla (.reg .a)
  | .sraB => .rot .sra (.reg .b)
  | .sraC => .rot .sra (.reg .c)
  | .sraD => .rot .sra (.reg .d)
  | .sraE => .rot .sra (.reg .e)
  | .sraH => .rot .sra (.reg .h)
  | .sraL => .rot .sra (.reg .l)
  | .sraAtHl => .rot .sra .atHl
  | .sraA => .rot .sra (.reg .a)
  | .swapB => .rot .swap (.reg .b)
  | .swapC => .rot .swap (.reg .c)
  | .swapD => .rot .swap (.reg .d)
  | .swapE => .rot .swap (.reg .e)
  | .swapH => .rot .swap (.reg .h)
  | .swapL => .rot .swap (.reg .l)
  | .swapAtHl => .rot .swap .atHl
  | .swapA => .rot .swap (.reg .a)
  | .srlB => .rot .srl (.reg .b)
  | .srlC => .rot .srl (.reg .c)
  | .srlD => .rot .srl (.reg .d)
  | .srlE => .rot .srl (.reg .e)
  | .srlH => .rot .srl (.reg .h)
  | .srlL => .rot .srl (.reg .l)
  | .srlAtHl => .rot .srl .atHl
  | .srlA => .rot .srl (.reg .a)
  | .bit0B => .bit 0 (.reg .b)
  | .bit0C => .bit 0 (.reg .c)
  | .bit0D => .bit 0 (.reg .d)
  | .bit0E => .bit 0 (.reg .e)
  | .bit0H => .bit 0 (.reg .h)
  | .bit0L => .bit 0 (.reg .l)
  | .bit0AtHl => .bit 0 .atHl
  | .bit0A => .bit 0 (.reg .a)
  | .bit1B => .bit 1 (.reg .b)
  | .bit1C => .bit 1 (.reg .c)
  | .bit1D => .bit 1 (.reg .d)
  | .bit1E => .bit 1 (.reg .e)
  | .bit1H => .bit 1 (.reg .h)
  | .bit1L => .bit 1 (.reg .l)
  | .bit1AtHl => .bit 1 .atHl
  | .bit1A => .bit 1 (.reg .a)
  | .bit2B => .bit 2 (.reg .b)
  | .bit2C => .bit 2 (.reg .c)
  | .bit2D => .bit 2 (.reg .d)
  | .bit2E => .bit 2 (.reg .e)
  | .bit2H => .bit 2 (.reg .h)
  | .bit2L => .bit 2 (.reg .l)
  | .bit2AtHl => .bit 2 .atHl
  | .bit2A => .bit 2 (.reg .a)
  | .bit3B => .bit 3 (.reg .b)
  | .bit3C => .bit 3 (.reg .c)
  | .bit3D => .bit 3 (.reg .d)
  | .bit3E => .bit 3 (.reg .e)
  | .bit3H => .bit 3 (.reg .h)
  | .bit3L => .bit 3 (.reg .l)
  | .bit3AtHl => .bit 3 .atHl
  | .bit3A => .bit 3 (.reg .a)
  | .bit4B => .bit 4 (.reg .b)
  | .bit4C => .bit 4 (.reg .c)
  | .bit4D => .bit 4 (.reg .d)
  | .bit4E => .bit 4 (.reg .e)
  | .bit4H => .bit 4 (.reg .h)
  | .bit4L => .bit 4 (.reg .l)
  | .bit4AtHl => .bit 4 .atHl
  | .bit4A => .bit 4 (.reg .a)
  | .bit5B => .bit 5 (.reg .b)
  | .bit5C => .bit 5 (.reg .c)
  | .bit5D => .bit 5 (.reg .d)
  | .bit5E => .bit 5 (.reg .e)
  | .bit5H => .bit 5 (.reg .h)
  | .bit5L => .bit 5 (.reg .l)
  | .bit5AtHl => .bit 5 .atHl
  | .bit5A => .bit 5 (.reg .a)
  | .bit6B => .bit 6 (.reg .b)
  | .bit6C => .bit 6 (.reg .c)
  | .bit6D => .bit 6 (.reg .d)
  | .bit6E => .bit 6 (.reg .e)
  | .bit6H => .bit 6 (.reg .h)
  | .bit6L => .bit 6 (.reg .l)
  | .bit6AtHl => .bit 6 .atHl
  | .bit6A => .bit 6 (.reg .a)
  | .bit7B => .bit 7 (.reg .b)
  | .bit7C => .bit 7 (.reg .c)
  | .bit7D => .bit 7 (.reg .d)
  | .bit7E => .bit 7 (.reg .e)
  | .bit7H => .bit 7 (.reg .h)
  | .bit7L => .bit 7 (.reg .l)
  | .bit7AtHl => .bit 7 .atHl
  | .bit7A => .bit 7 (.reg .a)
  | .res0B => .res 0 (.reg .b)
  | .res0C => .res 0 (.reg .c)
  | .res0D => .res 0 (.reg .d)
  | .res0E => .res 0 (.reg .e)
  | .res0H => .res 0 (.reg .h)
  | .res0L => .res 0 (.reg .l)
  | .res0AtHl => .res 0 .atHl
  | .res0A => .res 0 (.reg .a)
  | .res1B => .res 1 (.reg .b)
  | .res1C => .res 1 (.reg .c)
  | .res1D => .res 1 (.reg .d)
  | .res1E => .res 1 (.reg .e)
  | .res1H => .res 1 (.reg .h)
  | .res1L => .res 1 (.reg .l)
  | .res1AtHl => .res 1 .atHl
  | .res1A => .res 1 (.reg .a)
  | .res2B => .res 2 (.reg .b)
  | .res2C => .res 2 (.reg .c)
  | .res2D => .res 2 (.reg .d)
  | .res2E => .res 2 (.reg .e)
  | .res2H => .res 2 (.reg .h)
  | .res2L => .res 2 (.reg .l)
  | .res2AtHl => .res 2 .atHl
  | .res2A => .res 2 (.reg .a)
  | .res3B => .res 3 (.reg .b)
  | .res3C => .res 3 (.reg .c)
  | .res3D => .res 3 (.reg .d)
  | .res3E => .res 3 (.reg .e)
  | .res3H => .res 3 (.reg .h)
  | .res3L => .res 3 (.reg .l)
  | .res3AtHl => .res 3 .atHl
  | .res3A => .res 3 (.reg .a)
  | .res4B => .res 4 (.reg .b)
  | .res4C => .res 4 (.reg .c)
  | .res4D => .res 4 (.reg .d)
  | .res4E => .res 4 (.reg .e)
  | .res4H => .res 4 (.reg .h)
  | .res4L => .res 4 (.reg .l)
  | .res4AtHl => .res 4 .atHl
  | .res4A => .res 4 (.reg .a)
  | .res5B => .res 5 (.reg .b)
  | .res5C => .res 5 (.reg .c)
  | .res5D => .res 5 (.reg .d)
  | .res5E => .res 5 (.reg .e)
  | .res5H => .res 5 (.reg .h)
  | .res5L => .res 5 (.reg .l)
  | .res5AtHl => .res 5 .atHl
  | .res5A => .res 5 (.reg .a)
  | .res6B => .res 6 (.reg .b)
  | .res6C => .res 6 (.reg .c)
  | .res6D => .res 6 (.reg .d)
  | .res6E => .res 6 (.reg .e)
  | .res6H => .res 6 (.reg .h)
  | .res6L => .res 6 (.reg .l)
  | .res6AtHl => .res 6 .atHl
  | .res6A => .res 6 (.reg .a)
  | .res7B => .res 7 (.reg .b)
  | .res7C => .res 7 (.reg .c)
  | .res7D => .res 7 (.reg .d)
  | .res7E => .res 7 (.reg .e)
  | .res7H => .res 7 (.reg .h)
  | .res7L => .res 7 (.reg .l)
  | .res7AtHl => .res 7 .atHl
  | .res7A => .res 7 (.reg .a)
  | .set0B => .set 0 (.reg .b)
  | .set0C => .set 0 (.reg .c)
  | .set0D => .set 0 (.reg .d)
  | .set0E => .set 0 (.reg .e)
  | .set0H => .set 0 (.reg .h)
  | .set0L => .set 0 (.reg .l)
  | .set0AtHl => .set 0 .atHl
  | .set0A => .set 0 (.reg .a)
  | .set1B => .set 1 (.reg .b)
  | .set1C => .set 1 (.reg .c)
  | .set1D => .set 1 (.reg .d)
  | .set1E => .set 1 (.reg .e)
  | .set1H => .set 1 (.reg .h)
  | .set1L => .set 1 (.reg .l)
  | .set1AtHl => .set 1 .atHl
  | .set1A => .set 1 (.reg .a)
  | .set2B => .set 2 (.reg .b)
  | .set2C => .set 2 (.reg .c)
  | .set2D => .set 2 (.reg .d)
  | .set2E => .set 2 (.reg .e)
  | .set2H => .set 2 (.reg .h)
  | .set2L => .set 2 (.reg .l)
  | .set2AtHl => .set 2 .atHl
  | .set2A => .set 2 (.reg .a)
  | .set3B => .set 3 (.reg .b)
  | .set3C => .set 3 (.reg .c)
  | .set3D => .set 3 (.reg .d)
  | .set3E => .set 3 (.reg .e)
  | .set3H => .set 3 (.reg .h)
  | .set3L => .set 3 (.reg .l)
  | .set3AtHl => .set 3 .atHl
  | .set3A => .set 3 (.reg .a)
  | .set4B => .set 4 (.reg .b)
  | .set4C => .set 4 (.reg .c)
  | .set4D => .set 4 (.reg .d)
  | .set4E => .set 4 (.reg .e)
  | .set4H => .set 4 (.reg .h)
  | .set4L => .set 4 (.reg .l)
  | .set4AtHl => .set 4 .atHl
  | .set4A => .set 4 (.reg .a)
  | .set5B => .set 5 (.reg .b)
  | .set5C => .set 5 (.reg .c)
  | .set5D => .set 5 (.reg .d)
  | .set5E => .set 5 (.reg .e)
  | .set5H => .set 5 (.reg .h)
  | .set5L => .set 5 (.reg .l)
  | .set5AtHl => .set 5 .atHl
  | .set5A => .set 5 (.reg .a)
  | .set6B => .set 6 (.reg .b)
  | .set6C => .set 6 (.reg .c)
  | .set6D => .set 6 (.reg .d)
  | .set6E => .set 6 (.reg .e)
  | .set6H => .set 6 (.reg .h)
  | .set6L => .set 6 (.reg .l)
  | .set6AtHl => .set 6 .atHl
  | .set6A => .set 6 (.reg .a)
  | .set7B => .set 7 (.reg .b)
  | .set7C => .set 7 (.reg .c)
  | .set7D => .set 7 (.reg .d)
  | .set7E => .set 7 (.reg .e)
  | .set7H => .set 7 (.reg .h)
  | .set7L => .set 7 (.reg .l)
  | .set7AtHl => .set 7 .atHl
  | .set7A => .set 7 (.reg .a)

/-! ## Operand codes (R93 to R96, R102) -/

/-- The 3-bit register code (R93): B, C, D, E, H, L, (HL), A. -/
def loc8OfCode : Nat → Loc8
  | 0 => .reg .b
  | 1 => .reg .c
  | 2 => .reg .d
  | 3 => .reg .e
  | 4 => .reg .h
  | 5 => .reg .l
  | 6 => .atHl
  | _ => .reg .a

/-- Field `rp` (R94): BC, DE, HL, SP. -/
def pairOfCode : Nat → Pair
  | 0 => .bc
  | 1 => .de
  | 2 => .hl
  | _ => .sp

/-- Field `rp2` (R94): BC, DE, HL, AF. -/
def stackPairOfCode : Nat → StackPair
  | 0 => .bc
  | 1 => .de
  | 2 => .hl
  | _ => .af

/-- The condition code (R95): NZ, Z, NC, C. -/
def condOfCode : Nat → Cond
  | 0 => .nz
  | 1 => .z
  | 2 => .nc
  | _ => .c

/-- The ALU operation code (R96): ADD, ADC, SUB, SBC, AND, XOR, OR, CP. -/
def aluOpOfCode : Nat → AluOp
  | 0 => .add
  | 1 => .adc
  | 2 => .sub
  | 3 => .sbc
  | 4 => .and
  | 5 => .xor
  | 6 => .or
  | _ => .cp

/-- The rotate and shift variant (R102): RLC, RRC, RL, RR, SLA, SRA, SWAP, SRL. -/
def rotOpOfCode : Nat → RotOp
  | 0 => .rlc
  | 1 => .rrc
  | 2 => .rl
  | 3 => .rr
  | 4 => .sla
  | 5 => .sra
  | 6 => .swap
  | _ => .srl

/-- An ALU operand given by a 3-bit code (R160). -/
def aluSrcOfLoc : Loc8 → AluSrc
  | .reg r => .reg r
  | .atHl => .atHl

/-! ## Decoding -/

/-- The structural CB decode (R101): class in bits 7-6, index or variant in bits 5-3, operand in bits 2-0. -/
def decodeCb (sub : Byte) : Form :=
  let cls := (sub.extractLsb' 6 2).toNat
  let y := sub.extractLsb' 3 3
  let x := loc8OfCode (sub.extractLsb' 0 3).toNat
  match cls with
  | 0 => .rot (rotOpOfCode y.toNat) x
  | 1 => .bit y.toFin x
  | 2 => .res y.toFin x
  | _ => .set y.toFin x

/-- Opcodes 00-3F of the map (R100): fields y = op[5:3], z = op[2:0], p = op[5:4], q = op[3]. -/
def decodeRows0 (y z : Nat) (n8 : Byte) (n16 : Word) : Form :=
  let p := y / 2
  match z, y % 2 with
  | 0, _ =>
    match y with
    | 0 => .nop
    | 1 => .ldAtA16Sp n16
    | 2 => .stop
    | 3 => .jr n8
    | _ => .jrCc (condOfCode (y - 4)) n8
  | 1, 0 => .ldPairImm (pairOfCode p) n16
  | 1, _ => .addHl (pairOfCode p)
  | 2, 0 =>
    match p with
    | 0 => .ldAtPtrA .bc
    | 1 => .ldAtPtrA .de
    | 2 => .ldAtHlIncA
    | _ => .ldAtHlDecA
  | 2, _ =>
    match p with
    | 0 => .ldAAtPtr .bc
    | 1 => .ldAAtPtr .de
    | 2 => .ldAAtHlInc
    | _ => .ldAAtHlDec
  | 3, 0 => .incPair (pairOfCode p)
  | 3, _ => .decPair (pairOfCode p)
  | 4, _ => .inc (loc8OfCode y)
  | 5, _ => .dec (loc8OfCode y)
  | 6, _ =>
    match loc8OfCode y with
    | .reg r => .ldRegImm r n8
    | .atHl => .ldAtHlImm n8
  | _, _ =>
    match y with
    | 0 => .rlca
    | 1 => .rrca
    | 2 => .rla
    | 3 => .rra
    | 4 => .daa
    | 5 => .cpl
    | 6 => .scf
    | _ => .ccf

/-- Opcodes 40-7F of the map (R100): the LD block, with HALT where `LD (HL),(HL)` would stand (R281). -/
def decodeRows1 (y z : Nat) : Form :=
  match loc8OfCode y, loc8OfCode z with
  | .reg dst, .reg src => .ldRegReg dst src
  | .reg dst, .atHl => .ldRegAtHl dst
  | .atHl, .reg src => .ldAtHlReg src
  | .atHl, .atHl => .halt

/-- Opcodes C0-FF of the map (R100), with the eleven unmapped cells (R103). -/
def decodeRows3 (y z : Nat) (n8 : Byte) (n16 : Word) : Form :=
  match z with
  | 0 =>
    match y with
    | 4 => .ldhAtA8A n8
    | 5 => .addSpE8 n8
    | 6 => .ldhAAtA8 n8
    | 7 => .ldHlSpE8 n8
    | _ => .retCc (condOfCode y)
  | 1 =>
    match y with
    | 1 => .ret
    | 3 => .reti
    | 5 => .jpHl
    | 7 => .ldSpHl
    | _ => .pop (stackPairOfCode (y / 2))
  | 2 =>
    match y with
    | 4 => .ldhAtCA
    | 5 => .ldAtA16A n16
    | 6 => .ldhAAtC
    | 7 => .ldAAtA16 n16
    | _ => .jpCc (condOfCode y) n16
  | 3 =>
    match y with
    | 0 => .jp n16
    | 1 => .prefixCb n8
    | 2 => .illegal .xD3
    | 3 => .illegal .xDB
    | 4 => .illegal .xE3
    | 5 => .illegal .xEB
    | 6 => .di
    | _ => .ei
  | 4 =>
    match y with
    | 4 => .illegal .xE4
    | 5 => .illegal .xEC
    | 6 => .illegal .xF4
    | 7 => .illegal .xFC
    | _ => .callCc (condOfCode y) n16
  | 5 =>
    match y with
    | 1 => .call n16
    | 3 => .illegal .xDD
    | 5 => .illegal .xED
    | 7 => .illegal .xFD
    | _ => .push (stackPairOfCode (y / 2))
  | 6 => .alu (aluOpOfCode y) (.imm n8)
  | _ => .rst (Fin.ofNat 8 y)

/-- The primary InstructionTable (R91, R100): the descriptor of opcode `op`, with `first` and `second` the
bytes after it where its format has them (R92, R97). 0xCB yields the prefix (R285). -/
def decodePrimary (op first second : Byte) : Form :=
  let y := (op.extractLsb' 3 3).toNat
  let z := (op.extractLsb' 0 3).toNat
  match (op.extractLsb' 6 2).toNat with
  | 0 => decodeRows0 y z first (ofHiLo second first)
  | 1 => decodeRows1 y z
  | 2 => .alu (aluOpOfCode y) (aluSrcOfLoc (loc8OfCode z))
  | _ => decodeRows3 y z first (ofHiLo second first)

/-- Resolves the prefix: "read one more byte and re-decode via bit-slicing" (R285). Any other form is its own. -/
def resolvePrefix : Form → Form
  | .prefixCb sub => decodeCb sub
  | form => form

/-- How many bytes follow the first byte of an instruction (R107): 0, 1 or 2. STOP and the illegal opcodes
have none, since they fault before any further byte is read. -/
def operandCount (op : Byte) : Nat :=
  match op.toNat with
  | 0x01 | 0x11 | 0x21 | 0x31 | 0x08 | 0xC2 | 0xCA | 0xD2 | 0xDA | 0xC3
  | 0xC4 | 0xCC | 0xD4 | 0xDC | 0xCD | 0xEA | 0xFA => 2
  | 0x06 | 0x0E | 0x16 | 0x1E | 0x26 | 0x2E | 0x36 | 0x3E | 0x18 | 0x20 | 0x28 | 0x30 | 0x38
  | 0xC6 | 0xCE | 0xD6 | 0xDE | 0xE6 | 0xEE | 0xF6 | 0xFE | 0xE0 | 0xF0 | 0xE8 | 0xF8 | 0xCB => 1
  | _ => 0

/-- Why a byte list is not an instruction. Every opcode byte and every CB sub-opcode byte has a row (R104; the
unmapped opcodes are rows of their own), so the only reason is that the list ends too soon. -/
inductive DecodeReject where
  /-- the list ends before the instruction's last byte -/
  | truncated
deriving DecidableEq, Repr

/-- The instruction at the head of a list of bytes and the bytes after it; total on every list (R104). -/
def decode : List Byte → Except DecodeReject (Instr × List Byte)
  | [] => .error .truncated
  | op :: rest =>
    match operandCount op, rest with
    | 0, rest => .ok ((decodePrimary op 0 0).instr, rest)
    | 1, b1 :: rest => .ok ((resolvePrefix (decodePrimary op b1 0)).instr, rest)
    | 2, b1 :: b2 :: rest => .ok ((decodePrimary op b1 b2).instr, rest)
    | _, _ => .error .truncated

/-! ## Encoding -/

/-- The 3-bit code of a register (R93). -/
def Reg8.code : Reg8 → Nat
  | .b => 0
  | .c => 1
  | .d => 2
  | .e => 3
  | .h => 4
  | .l => 5
  | .a => 7

/-- The 3-bit code of an operand (R93). -/
def Loc8.code : Loc8 → Nat
  | .reg r => r.code
  | .atHl => 6

/-- The 2-bit code of a pair in field `rp` (R94). -/
def Pair.code : Pair → Nat
  | .bc => 0
  | .de => 1
  | .hl => 2
  | .sp => 3

/-- The 2-bit code of a pair in field `rp2` (R94). -/
def StackPair.code : StackPair → Nat
  | .bc => 0
  | .de => 1
  | .hl => 2
  | .af => 3

/-- The bit of (BC) or (DE) in the register-indirect opcodes 02, 0A, 12 and 1A (R100). -/
def PtrPair.code : PtrPair → Nat
  | .bc => 0
  | .de => 1

/-- The 2-bit condition code (R95). -/
def Cond.code : Cond → Nat
  | .nz => 0
  | .z => 1
  | .nc => 2
  | .c => 3

/-- The 3-bit ALU operation code (R96). -/
def AluOp.code : AluOp → Nat
  | .add => 0
  | .adc => 1
  | .sub => 2
  | .sbc => 3
  | .and => 4
  | .xor => 5
  | .or => 6
  | .cp => 7

/-- The 3-bit rotate and shift variant (R102). -/
def RotOp.code : RotOp → Nat
  | .rlc => 0
  | .rrc => 1
  | .rl => 2
  | .rr => 3
  | .sla => 4
  | .sra => 5
  | .swap => 6
  | .srl => 7

/-- The opcode byte of an unmapped opcode (R103). -/
def IllegalOp.byte : IllegalOp → Byte
  | .xD3 => 0xD3
  | .xDB => 0xDB
  | .xDD => 0xDD
  | .xE3 => 0xE3
  | .xE4 => 0xE4
  | .xEB => 0xEB
  | .xEC => 0xEC
  | .xED => 0xED
  | .xF4 => 0xF4
  | .xFC => 0xFC
  | .xFD => 0xFD

/-- The byte with value `n`. -/
def byteOf (n : Nat) : Byte := BitVec.ofNat 8 n

/-- A 3-byte instruction: opcode, then the 16-bit operand low byte first (R92, `op+n16`). -/
def withWord (op : Nat) (v : Word) : List Byte := [byteOf op, loByte v, hiByte v]

/-- A CB instruction: prefix, then `xxyyyzzz` (R92, `cb`). -/
def cbBytes (cls y z : Nat) : List Byte := [0xCB, byteOf (cls * 64 + y * 8 + z)]

/-- The words of a form, from the encoding line of each instruction rule. -/
def Form.bytes : Form → List Byte
  | .nop => [0x00]
  | .halt => [0x76]
  | .stop => [0x10]
  | .di => [0xF3]
  | .ei => [0xFB]
  | .daa => [0x27]
  | .cpl => [0x2F]
  | .scf => [0x37]
  | .ccf => [0x3F]
  | .rlca => [0x07]
  | .rrca => [0x0F]
  | .rla => [0x17]
  | .rra => [0x1F]
  | .ldRegReg dst src => [byteOf (0x40 + dst.code * 8 + src.code)]
  | .ldRegImm dst n8 => [byteOf (0x06 + dst.code * 8), n8]
  | .ldRegAtHl dst => [byteOf (0x46 + dst.code * 8)]
  | .ldAtHlReg src => [byteOf (0x70 + src.code)]
  | .ldAtHlImm n8 => [0x36, n8]
  | .ldAAtPtr p => [byteOf (0x0A + p.code * 16)]
  | .ldAtPtrA p => [byteOf (0x02 + p.code * 16)]
  | .ldAAtA16 a16 => withWord 0xFA a16
  | .ldAtA16A a16 => withWord 0xEA a16
  | .ldhAAtC => [0xF2]
  | .ldhAtCA => [0xE2]
  | .ldhAAtA8 a8 => [0xF0, a8]
  | .ldhAtA8A a8 => [0xE0, a8]
  | .ldAAtHlInc => [0x2A]
  | .ldAAtHlDec => [0x3A]
  | .ldAtHlIncA => [0x22]
  | .ldAtHlDecA => [0x32]
  | .ldPairImm p n16 => withWord (0x01 + p.code * 16) n16
  | .ldAtA16Sp a16 => withWord 0x08 a16
  | .ldSpHl => [0xF9]
  | .ldHlSpE8 e8 => [0xF8, e8]
  | .push p => [byteOf (0xC5 + p.code * 16)]
  | .pop p => [byteOf (0xC1 + p.code * 16)]
  | .alu op (.reg r) => [byteOf (0x80 + op.code * 8 + r.code)]
  | .alu op .atHl => [byteOf (0x86 + op.code * 8)]
  | .alu op (.imm n8) => [byteOf (0xC6 + op.code * 8), n8]
  | .inc x => [byteOf (0x04 + x.code * 8)]
  | .dec x => [byteOf (0x05 + x.code * 8)]
  | .addHl p => [byteOf (0x09 + p.code * 16)]
  | .incPair p => [byteOf (0x03 + p.code * 16)]
  | .decPair p => [byteOf (0x0B + p.code * 16)]
  | .addSpE8 e8 => [0xE8, e8]
  | .jp a16 => withWord 0xC3 a16
  | .jpCc cc a16 => withWord (0xC2 + cc.code * 8) a16
  | .jpHl => [0xE9]
  | .jr e8 => [0x18, e8]
  | .jrCc cc e8 => [byteOf (0x20 + cc.code * 8), e8]
  | .call a16 => withWord 0xCD a16
  | .callCc cc a16 => withWord (0xC4 + cc.code * 8) a16
  | .ret => [0xC9]
  | .retCc cc => [byteOf (0xC0 + cc.code * 8)]
  | .reti => [0xD9]
  | .rst y => [byteOf (0xC7 + y.val * 8)]
  | .prefixCb sub => [0xCB, sub]
  | .illegal op => [op.byte]
  | .rot op x => cbBytes 0 op.code x.code
  | .bit k x => cbBytes 1 k.val x.code
  | .res k x => cbBytes 2 k.val x.code
  | .set k x => cbBytes 3 k.val x.code

/-- The words of an instruction, first byte first. -/
def encode (i : Instr) : List Byte := i.form.bytes

/-! ## The opcode table's numbering -/

/-- The bytes, first byte first, of a table word: three bytes, those above the word being 0. The table writes
a CB row's match as the number 0xCBss, prefix first (spec/opcode_table.json, "match"), so a 16-bit word whose
bits 15-8 are the prefix is read so; in every other word the first byte is bits 7-0 and later bytes count on
(log entry 6). -/
def tableWordBytes (nbits w : Nat) : List Byte :=
  if nbits = 16 ∧ w / 256 % 256 = 0xCB then [0xCB, byteOf w, 0]
  else
    [byteOf w, if nbits ≤ 8 then 0 else byteOf (w / 256), if nbits ≤ 16 then 0 else byteOf (w / 65536)]

/-- The instruction the decoder reads from a table word. A word of 8 bits is a row of the primary table and is
answered by the primary table, where 0xCB is the row PREFIX CB (R91, R285); a longer word is answered by the
whole decoder (log entry 6). -/
def decodeTableWord (nbits w : Nat) : Option Instr :=
  match tableWordBytes nbits w with
  | [op, b1, b2] =>
    if nbits ≤ 8 then some (decodePrimary op b1 b2).instr
    else
      match decode [op, b1, b2] with
      | .ok (i, _) => some i
      | .error _ => none
  | _ => none

end Sys2Proof
end

