-- ==== Sys2Proof/Machine/Flags.lean ====
section
/-! DEFINITION. The flag register F (R23, R26, R27) and every result-and-flags computation of the ALU:
the shared additions and subtractions, INC and DEC, DAA, the 16-bit sums, and the rotates and shifts. -/

namespace Sys2Proof.Machine

/-- F as its four flag bits: bits 7, 6, 5 and 4 (R26). The low nibble of F is always 0 and is not stored
(R23, "A model may store F as four flag bits"). -/
structure Flags where
  /-- bit 7: zero -/
  z : Bool
  /-- bit 6: subtraction -/
  n : Bool
  /-- bit 5: half-carry -/
  h : Bool
  /-- bit 4: carry -/
  c : Bool
deriving DecidableEq, Repr

/-- `F = {Z, N, H, C, 0, 0, 0, 0}` (R23). -/
def flagsToByte (fl : Flags) : Byte :=
  BitVec.ofNat 8 (fl.z.toNat * 0x80 + fl.n.toNat * 0x40 + fl.h.toNat * 0x20 + fl.c.toNat * 0x10)

/-- The flags that a write of `v` to F leaves: bits 7-4 of `v`; bits 3-0 are masked away (R23). -/
def flagsOfByte (v : Byte) : Flags :=
  { z := v.getLsbD 7, n := v.getLsbD 6, h := v.getLsbD 5, c := v.getLsbD 4 }

/-- `Add8(a, b, cin)` (R161), with N = 0 as ADD and ADC set it. -/
def add8 (a b : Byte) (cin : Bool) : Byte × Flags :=
  let sum := a.toNat + b.toNat + cin.toNat
  let res := BitVec.ofNat 8 sum
  (res, { z := decide (res = 0), n := false
          h := decide (a.toNat % 16 + b.toNat % 16 + cin.toNat > 0x0F), c := decide (sum > 0xFF) })

/-- `Sub8(a, b, cin)` (R162), with N = 1 as SUB, SBC and CP set it. -/
def sub8 (a b : Byte) (cin : Bool) : Byte × Flags :=
  let res := BitVec.ofInt 8 ((a.toNat : Int) - b.toNat - cin.toNat)
  (res, { z := decide (res = 0), n := true
          h := decide (a.toNat % 16 < b.toNat % 16 + cin.toNat), c := decide (a.toNat < b.toNat + cin.toNat) })

/-- AND: flags `(A = 0, 0, 1, 0)` (R175). -/
def and8 (a b : Byte) : Byte × Flags :=
  let res := a &&& b
  (res, { z := decide (res = 0), n := false, h := true, c := false })

/-- XOR: flags `(A = 0, 0, 0, 0)` (R178). -/
def xor8 (a b : Byte) : Byte × Flags :=
  let res := a ^^^ b
  (res, { z := decide (res = 0), n := false, h := false, c := false })

/-- OR: flags `(A = 0, 0, 0, 0)` (R181). -/
def or8 (a b : Byte) : Byte × Flags :=
  let res := a ||| b
  (res, { z := decide (res = 0), n := false, h := false, c := false })

/-- The result and flags of an ALU operation on A and an operand with the carry flag `cin` (R160). -/
def aluCompute : AluOp → Byte → Byte → Bool → Byte × Flags
  | .add, a, b, _ => add8 a b false
  | .adc, a, b, cin => add8 a b cin
  | .sub, a, b, _ => sub8 a b false
  | .sbc, a, b, cin => sub8 a b cin
  | .and, a, b, _ => and8 a b
  | .xor, a, b, _ => xor8 a b
  | .or, a, b, _ => or8 a b
  | .cp, a, b, _ => sub8 a b false

/-- INC of a byte: Z and H computed, N 0, C unaffected (R187). -/
def inc8 (v : Byte) (old : Flags) : Byte × Flags :=
  let res := BitVec.ofNat 8 (v.toNat + 1)
  (res, { z := decide (res = 0), n := false, h := decide (v.toNat % 16 = 0x0F), c := old.c })

/-- DEC of a byte: Z and H computed, N 1, C unaffected (R189). -/
def dec8 (v : Byte) (old : Flags) : Byte × Flags :=
  let res := BitVec.ofInt 8 ((v.toNat : Int) - 1)
  (res, { z := decide (res = 0), n := true, h := decide (v.toNat % 16 = 0x00), c := old.c })

/-- DAA (R191): the corrected accumulator and the new flags. -/
def daa8 (a : Byte) (old : Flags) : Byte × Flags :=
  if old.n = false then
    let high := old.c || decide (a.toNat > 0x99)
    let a1 := if high then BitVec.ofNat 8 (a.toNat + 0x60) else a
    let a2 := if old.h || decide (a1.toNat % 16 > 0x09) then BitVec.ofNat 8 (a1.toNat + 0x06) else a1
    (a2, { z := decide (a2 = 0), n := old.n, h := false, c := high })
  else
    let a1 := if old.c then BitVec.ofInt 8 ((a.toNat : Int) - 0x60) else a
    let a2 := if old.h then BitVec.ofInt 8 ((a1.toNat : Int) - 0x06) else a1
    (a2, { z := decide (a2 = 0), n := old.n, h := false, c := old.c })

/-- ADD HL,rr (R201): half-carry out of bit 11, carry out of bit 15, Z unaffected, N 0. -/
def add16 (a b : Word) (old : Flags) : Word × Flags :=
  let sum := a.toNat + b.toNat
  (BitVec.ofNat 16 sum,
   { z := old.z, n := false
     h := decide (a.toNat % 0x1000 + b.toNat % 0x1000 > 0x0FFF), c := decide (sum > 0xFFFF) })

/-- `AddSPe8(sp, e)` (R200): the signed sum, with H and C from the unsigned low-byte addition. -/
def addSpDisp (sp : Word) (e : Byte) : Word × Flags :=
  (BitVec.ofInt 16 ((sp.toNat : Int) + e.toInt),
   { z := false, n := false
     h := decide (sp.toNat % 0x10 + e.toNat % 0x10 > 0x0F)
     c := decide (sp.toNat % 0x100 + e.toNat > 0xFF) })

/-- The byte with bit 7 equal to `b7` and bits 6-0 equal to bits 7-1 of `v`: a right shift by one. -/
def shiftRightIn (v : Byte) (b7 : Bool) : Byte := BitVec.ofNat 8 (v.toNat / 2 + b7.toNat * 0x80)

/-- The byte with bit 0 equal to `b0` and bits 7-1 equal to bits 6-0 of `v`: a left shift by one. -/
def shiftLeftIn (v : Byte) (b0 : Bool) : Byte := BitVec.ofNat 8 (v.toNat * 2 + b0.toNat)

/-- The result and the carry of a rotate or shift of `v` with carry flag `cin` (R225 to R239). -/
def rotCompute : RotOp → Byte → Bool → Byte × Bool
  | .rlc, v, _ => (shiftLeftIn v (v.getLsbD 7), v.getLsbD 7)
  | .rrc, v, _ => (shiftRightIn v (v.getLsbD 0), v.getLsbD 0)
  | .rl, v, cin => (shiftLeftIn v cin, v.getLsbD 7)
  | .rr, v, cin => (shiftRightIn v cin, v.getLsbD 0)
  | .sla, v, _ => (shiftLeftIn v false, v.getLsbD 7)
  | .sra, v, _ => (shiftRightIn v (v.getLsbD 7), v.getLsbD 0)
  | .swap, v, _ => (BitVec.ofNat 8 (v.toNat % 16 * 16 + v.toNat / 16), false)
  | .srl, v, _ => (shiftRightIn v false, v.getLsbD 0)

/-- The flags of a CB rotate or shift: `(res = 0, 0, 0, c)` (R225 to R240). -/
def rotFlags (res : Byte) (c : Bool) : Flags := { z := decide (res = 0), n := false, h := false, c := c }

/-- The flags of BIT: `(v[b] = 0, 0, 1, -)` (R241). -/
def bitFlags (b : Fin 8) (v : Byte) (old : Flags) : Flags :=
  { z := !v.getLsbD b.val, n := false, h := true, c := old.c }

/-- `v & ~(1 << b)` (R243). -/
def clearBit (b : Fin 8) (v : Byte) : Byte := v &&& ~~~(BitVec.twoPow 8 b.val)

/-- `v | (1 << b)` (R245). -/
def setBit (b : Fin 8) (v : Byte) : Byte := v ||| BitVec.twoPow 8 b.val

/-- `Cond(cc)` (R250): reads Z or C only. -/
def condHolds : Cond → Flags → Bool
  | .nz, fl => !fl.z
  | .z, fl => fl.z
  | .nc, fl => !fl.c
  | .c, fl => fl.c

end Sys2Proof.Machine
end

