-- ==== Sys2Proof/Machine/Memory.lean ====
section
/-! DEFINITION. The backing arrays of the bus (R38, R39, R40) as sparse lists of (index, byte) cells in one
canonical form: indices strictly rising, no cell holding the byte that an unlisted index reads as. -/

namespace Sys2Proof.Machine

/-- One byte array of the core: working RAM, high RAM or the backing store. -/
abbrev Memory := List Host.Cell

/-- What an index no cell lists reads as. For BACKING this is the loader's zero padding (R40, "zero-padded");
for WRAM and HRAM the spec leaves the initial bytes open (R43) and zero is the model's DESIGN CHOICE
(log entry 3, unsafe). -/
def Memory.unlisted : Byte := 0

/-- The byte at index `k`. -/
def Memory.read : Memory → Nat → Byte
  | [], _ => Memory.unlisted
  | (a, v) :: rest, k => if a = k then v else Memory.read rest k

/-- Puts a cell in front of `rest`, unless it holds what an unlisted index reads as. -/
def Memory.consCell (k : Nat) (v : Byte) (rest : Memory) : Memory :=
  if v = Memory.unlisted then rest else (k, v) :: rest

/-- Stores `v` at index `k`, keeping the canonical form: storing the unlisted byte removes the cell. -/
def Memory.write : Memory → Nat → Byte → Memory
  | [], k, v => Memory.consCell k v []
  | (a, x) :: rest, k, v =>
    if k < a then Memory.consCell k v ((a, x) :: rest)
    else if k = a then Memory.consCell k v rest
    else (a, x) :: Memory.write rest k v

/-- Every index is at least `lo` and below `size`, indices rise strictly, and no cell holds the unlisted byte. -/
def Memory.wfFrom (size : Nat) : Nat → Memory → Bool
  | _, [] => true
  | lo, (a, v) :: rest =>
    decide (lo ≤ a) && decide (a < size) && decide (v ≠ Memory.unlisted) && Memory.wfFrom size (a + 1) rest

/-- The canonical form of an array of `size` bytes. -/
def Memory.wf (size : Nat) (m : Memory) : Bool := Memory.wfFrom size 0 m

end Sys2Proof.Machine
end

