-- ==== Sys2Proof/Machine/State.lean ====
section
/-! DEFINITION. The complete state of the core (R42), the reasons a step can stop, and the state after
reset, which is the construction of the core (R350). -/

namespace Sys2Proof.Machine

/-- The seven 8-bit registers besides F (R20). BC, DE and HL are views of them, not storage (R21). -/
structure Regs where
  a : Byte
  b : Byte
  c : Byte
  d : Byte
  e : Byte
  h : Byte
  l : Byte
deriving DecidableEq, Repr

/-- The timer (R33 to R36): the divider, the counter, its reload value and the 3-bit control register. -/
structure Timer where
  div  : BitVec 16
  tima : Byte
  tma  : Byte
  tac  : BitVec 3
deriving DecidableEq, Repr

/-- The five interrupt sources, in the order of bits 0 to 4 of IE and IF (R304, R306). -/
inductive IntSource where
  | vblank
  | lcdStat
  | timer
  | serial
  | joypad
deriving DecidableEq, Repr

/-- The three kinds of fatal error (R309, R310, R311). There are no numeric codes (D25). -/
inductive FaultKind where
  /-- an unmapped primary opcode was fetched (R309) -/
  | decodeFailure
  /-- an opcode with no handler was executed: STOP (R310) -/
  | executeFailure
  /-- a bug in the decode or dispatch tables (R311), which no state of the model reaches -/
  | contractViolation
deriving DecidableEq, Repr

/-- The report `fault = (kind, opcode, pc)` of a fatal error (R41). -/
structure FaultReport where
  kind   : FaultKind
  opcode : Byte
  pc     : Word
deriving DecidableEq, Repr

/-- The complete state of the core (R42, "Nothing else is state"). F is held as its four flag bits (R23). -/
structure State where
  /-- A, B, C, D, E, H, L (R20) -/
  regs : Regs
  /-- F (R26) -/
  flags : Flags
  /-- the stack pointer (R24) -/
  sp : Word
  /-- the address of the next byte to fetch (R25) -/
  pc : Word
  /-- the interrupt master enable (R28) -/
  ime : Bool
  /-- EI's hidden latch (R29) -/
  imeScheduled : Bool
  /-- the CPU sleep flag (R30) -/
  halted : Bool
  /-- a fatal error has occurred (R41) -/
  stopped : Bool
  /-- its report, or none (R41) -/
  fault : Option FaultReport
  /-- IE at FFFF: all 8 bits are stored (R31) -/
  ie : Byte
  /-- IF at FF0F: all 8 bits are stored (R32) -/
  intFlags : Byte
  /-- DIV, TIMA, TMA, TAC (R33 to R36) -/
  timer : Timer
  /-- serial data at FF01, storage only (R37) -/
  sb : Byte
  /-- serial control at FF02, storage only (R37) -/
  sc : Byte
  /-- working RAM: 8,192 bytes (R38) -/
  wram : Memory
  /-- high RAM: 128 bytes, of which index 7F is never reached (R39) -/
  hram : Memory
  /-- the backing store: 65,536 bytes indexed by the full address (R40) -/
  backing : Memory
deriving DecidableEq, Repr

/-- The number of bytes of working RAM (R38). -/
def wramSize : Nat := 0x2000

/-- The number of bytes of high RAM (R39). -/
def hramSize : Nat := 0x80

/-- The number of bytes of the backing store (R40). -/
def backingSize : Nat := 0x10000

/-- Reasons a step can stop without a next state. The spec has none: every fatal error is recorded in the
state (`stopped`, `fault`, R41) and the step that raises it has a next state, so the one constructor is
raised by no definition of the model (log entry 4). -/
inductive Fault where
  /-- Raised by nothing. A fatal error of the spec is a next state with `stopped` set, not this. Safe. -/
  | neverRaised
deriving DecidableEq, Repr

/-- Reasons an instruction has no meaning. -/
inductive Refusal where
  /-- Raised only by an arm of `exec` whose instruction has no meaning yet; no arm of this model raises it. Safe. -/
  | notModelled (mnemonic : String)
deriving DecidableEq, Repr

/-- What a step or a meaning answers. -/
abbrev Result := Host.Outcome State Fault Refusal

/-! One named update per field; Sys2Proof/Laws/State.lean reads them back. -/

/-- The state with `regs` replaced. -/
def State.withRegs (s : State) (v : Regs) : State := { s with regs := v }

/-- The state with `flags` replaced. -/
def State.withFlags (s : State) (v : Flags) : State := { s with flags := v }

/-- The state with `sp` replaced. -/
def State.withSp (s : State) (v : Word) : State := { s with sp := v }

/-- The state with `pc` replaced. -/
def State.withPc (s : State) (v : Word) : State := { s with pc := v }

/-- The state with `ime` replaced. -/
def State.withIme (s : State) (v : Bool) : State := { s with ime := v }

/-- The state with `imeScheduled` replaced. -/
def State.withImeScheduled (s : State) (v : Bool) : State := { s with imeScheduled := v }

/-- The state with `halted` replaced. -/
def State.withHalted (s : State) (v : Bool) : State := { s with halted := v }

/-- The state with `stopped` replaced. -/
def State.withStopped (s : State) (v : Bool) : State := { s with stopped := v }

/-- The state with `fault` replaced. -/
def State.withFault (s : State) (v : Option FaultReport) : State := { s with fault := v }

/-- The state with `ie` replaced. -/
def State.withIe (s : State) (v : Byte) : State := { s with ie := v }

/-- The state with `intFlags` replaced. -/
def State.withIntFlags (s : State) (v : Byte) : State := { s with intFlags := v }

/-- The state with `timer` replaced. -/
def State.withTimer (s : State) (v : Timer) : State := { s with timer := v }

/-- The state with `sb` replaced. -/
def State.withSb (s : State) (v : Byte) : State := { s with sb := v }

/-- The state with `sc` replaced. -/
def State.withSc (s : State) (v : Byte) : State := { s with sc := v }

/-- The state with `wram` replaced. -/
def State.withWram (s : State) (v : Memory) : State := { s with wram := v }

/-- The state with `hram` replaced. -/
def State.withHram (s : State) (v : Memory) : State := { s with hram := v }

/-- The state with `backing` replaced. -/
def State.withBacking (s : State) (v : Memory) : State := { s with backing := v }

/-- `INIT_STATE` (R43, D18, OPEN): the part of the initial state that the builder of the core chooses. -/
structure InitState where
  a : Byte
  f : Byte
  b : Byte
  c : Byte
  d : Byte
  e : Byte
  h : Byte
  l : Byte
  sp : Word
  pc : Word
  ime : Bool
  halted : Bool
  ie : Byte
  intFlags : Byte
  div : BitVec 16
  tima : Byte
  tma : Byte
  tac : Byte
  sb : Byte
  sc : Byte
deriving DecidableEq, Repr

/-- `Construct(BACKING_in, INIT_STATE, INIT_WRAM, INIT_HRAM)` (R350): reset is the construction of the core.
F is masked to its high nibble and TAC to its low 3 bits; `ime_scheduled`, `stopped` and `fault` are fixed. -/
def State.construct (backing : Memory) (init : InitState) (wram hram : Memory) : State :=
  { regs := { a := init.a, b := init.b, c := init.c, d := init.d, e := init.e, h := init.h, l := init.l }
    flags := flagsOfByte init.f
    sp := init.sp
    pc := init.pc
    ime := init.ime
    imeScheduled := false
    halted := init.halted
    stopped := false
    fault := none
    ie := init.ie
    intFlags := init.intFlags
    timer := { div := init.div, tima := init.tima, tma := init.tma, tac := init.tac.extractLsb' 0 3 }
    sb := init.sb
    sc := init.sc
    wram := wram
    hram := hram
    backing := backing }

/-- The recommended default of `INIT_STATE`: the table of R43 (log entry 2). -/
def InitState.recommended : InitState :=
  { a := 0x01, f := 0xB0, b := 0x00, c := 0x13, d := 0x00, e := 0xD8, h := 0x01, l := 0x4D
    sp := 0xFFFE, pc := 0x0100
    ime := false, halted := false
    ie := 0x00, intFlags := 0x00
    div := 0x0000, tima := 0x00, tma := 0x00, tac := 0x00
    sb := 0x00, sc := 0x00 }

/-- The machine right after reset: constructed with the recommended `INIT_STATE` (log entry 2) and with
nothing listed in any array (log entry 3). -/
def State.reset : State := State.construct [] InitState.recommended [] []

end Sys2Proof.Machine
end

