-- ==== Sys2Proof/Machine/Ops.lean ====
section
/-! DEFINITION. The named operations of the machine: the timer, the bus, the machine cycle and the memory
primitives built on it, the stack, instruction fetch, fatal errors, interrupt dispatch and the interrupt phase. -/

namespace Sys2Proof.Machine

/-! ## Interrupt requests (R304, R306, R312) -/

/-- The bit of a source in IE and IF (R304). -/
def sourceBit : IntSource → Nat
  | .vblank => 0
  | .lcdStat => 1
  | .timer => 2
  | .serial => 3
  | .joypad => 4

/-- The fixed vector of a source, `0x0040 + 8*i` (R306). -/
def sourceVector (i : IntSource) : Word := BitVec.ofNat 16 (0x40 + 8 * sourceBit i)

/-- `RequestInterrupt(i)`: `IF <- IF | (1 << i)` (R312). The timer uses it; the host may use it between steps
for any source (R328). -/
def requestInterrupt (i : IntSource) (s : State) : State :=
  s.withIntFlags (s.intFlags ||| BitVec.twoPow 8 (sourceBit i))

/-! ## The timer (R315 to R322) -/

/-- The divider bit that TAC[1:0] selects (R36): 00 → 9, 01 → 3, 10 → 5, 11 → 7. -/
def selectedBit (tac : BitVec 3) : Nat :=
  match (tac.extractLsb' 0 2).toNat with
  | 0 => 9
  | 1 => 3
  | 2 => 5
  | _ => 7

/-- The enable bit of TAC (R36, bit 2). -/
def timerEnabled (tac : BitVec 3) : Bool := tac.getLsbD 2

/-- `TimaIncrement()` (R316): past FF, TIMA is reloaded from TMA and the Timer interrupt requested, in the same tick. -/
def timaIncrement (s : State) : State :=
  if s.timer.tima = 0xFF then
    requestInterrupt .timer (s.withTimer { s.timer with tima := s.timer.tma })
  else
    s.withTimer { s.timer with tima := s.timer.tima + 1 }

/-- Moves the divider to `div`, with TIMA's falling-edge detection on the selected bit: the part that
`TimerTick` (R315) and `WriteDIV` (R318) share. -/
def moveDiv (div : BitVec 16) (s : State) : State :=
  let sel := selectedBit s.timer.tac
  let falls := s.timer.div.getLsbD sel && !div.getLsbD sel
  let moved := s.withTimer { s.timer with div := div }
  if timerEnabled s.timer.tac && falls then timaIncrement moved else moved

/-- `TimerTick()` (R315). -/
def timerTick (s : State) : State := moveDiv (s.timer.div + 1) s

/-- `advance(n)` (R322): `TimerTick()` n times, and nothing else. -/
def advance : Nat → State → State
  | 0, s => s
  | n + 1, s => advance n (timerTick s)

/-- `WriteDIV(v)` (R318): any value resets the divider, with the same edge detection as a tick. -/
def writeDiv (s : State) : State := moveDiv 0 s

/-! ## The bus (R60 to R69) -/

/-- The registers of the I/O window FF00-FF7F (R66). -/
inductive IoReg where
  | sb
  | sc
  | div
  | tima
  | tma
  | tac
  | intFlags
  /-- any other address of the window (R67) -/
  | unimplemented
deriving DecidableEq, Repr

/-- The region an address resolves to (R61), with the index into its array. -/
inductive Region where
  | backing (index : Nat)
  | filler
  | wram (index : Nat)
  | io (r : IoReg)
  | hram (index : Nat)
  | ie
deriving DecidableEq, Repr

/-- The I/O register at an address of the window, by exact address (R66). -/
def ioRegAt : Nat → IoReg
  | 0xFF01 => .sb
  | 0xFF02 => .sc
  | 0xFF04 => .div
  | 0xFF05 => .tima
  | 0xFF06 => .tma
  | 0xFF07 => .tac
  | 0xFF0F => .intFlags
  | _ => .unimplemented

/-- The memory map (R61). -/
def regionOf (addr : Word) : Region :=
  let a := addr.toNat
  if a < 0x8000 then .backing a
  else if a < 0xA000 then .filler
  else if a < 0xC000 then .backing a
  else if a < 0xE000 then .wram (a - 0xC000)
  else if a < 0xFE00 then .wram (a - 0xE000)
  else if a < 0xFF00 then .filler
  else if a < 0xFF80 then .io (ioRegAt a)
  else if a < 0xFFFF then .hram (a - 0xFF80)
  else .ie

/-- What a read of an I/O register returns (R66, R67): DIV shows `div[15:8]` (R317), TAC reads zero-extended
(R321), an unimplemented address reads 0x00. -/
def ioRead (r : IoReg) (s : State) : Byte :=
  match r with
  | .sb => s.sb
  | .sc => s.sc
  | .div => s.timer.div.extractLsb' 8 8
  | .tima => s.timer.tima
  | .tma => s.timer.tma
  | .tac => s.timer.tac.setWidth 8
  | .intFlags => s.intFlags
  | .unimplemented => 0x00

/-- What a write to an I/O register does (R66, R67): DIV is reset with edge detection (R318), TAC keeps the
low 3 bits with no edge detection (R321, D14), an unimplemented address discards the write. -/
def ioWrite (r : IoReg) (v : Byte) (s : State) : State :=
  match r with
  | .sb => s.withSb v
  | .sc => s.withSc v
  | .div => writeDiv s
  | .tima => s.withTimer { s.timer with tima := v }
  | .tma => s.withTimer { s.timer with tma := v }
  | .tac => s.withTimer { s.timer with tac := v.extractLsb' 0 3 }
  | .intFlags => s.withIntFlags v
  | .unimplemented => s

/-- `BusRead(addr)`: the pure 8-bit dispatch, with no tick (R11, R62 to R69). -/
def busRead (addr : Word) (s : State) : Byte :=
  match regionOf addr with
  | .backing k => Memory.read s.backing k
  | .filler => Config.fillerByte
  | .wram k => Memory.read s.wram k
  | .io r => ioRead r s
  | .hram k => Memory.read s.hram k
  | .ie => s.ie

/-- `BusWrite(addr, v)`: the pure 8-bit dispatch, with no tick (R11, R62 to R69). A write to a filler range
changes no state (R63). -/
def busWrite (addr : Word) (v : Byte) (s : State) : State :=
  match regionOf addr with
  | .backing k => s.withBacking (Memory.write s.backing k v)
  | .filler => s
  | .wram k => s.withWram (Memory.write s.wram k v)
  | .io r => ioWrite r v s
  | .hram k => s.withHram (Memory.write s.hram k v)
  | .ie => s.withIe v

/-! ## Machine cycles (R70 to R73) -/

/-- `Tick()` (R70): `TICKS_PER_MCYCLE` timer ticks. -/
def tick (s : State) : State := advance Config.ticksPerMCycle s

/-- `Internal()` (R71): a machine cycle with no bus access. -/
def internal (s : State) : State := tick s

/-- `MemRead(addr, 1)` (R70): the tick comes first, then the read. -/
def memRead (addr : Word) (s : State) : Byte × State := (busRead addr (tick s), tick s)

/-- `MemWrite(addr, 1, v)` (R70): the tick comes first, then the write. -/
def memWrite (addr : Word) (v : Byte) (s : State) : State := busWrite addr v (tick s)

/-- `MemRead(addr, 2)` (R72): low byte first, the high byte at the next address, wrapping. -/
def memRead16 (addr : Word) (s : State) : Word × State :=
  let lo := memRead addr s
  let hi := memRead (addr + 1) lo.2
  (ofHiLo hi.1 lo.1, hi.2)

/-- `MemWrite(addr, 2, v)` (R72): low byte first, the high byte at the next address, wrapping. -/
def memWrite16 (addr v : Word) (s : State) : State :=
  memWrite (addr + 1) (hiByte v) (memWrite addr (loByte v) s)

/-- One byte of a push: SP is decremented, then the byte is written at SP (R73). -/
def pushByte (v : Byte) (s : State) : State :=
  let down := s.withSp (s.sp - 1)
  memWrite down.sp v down

/-- One byte of a pop: the byte is read at SP, then SP is incremented (R73). -/
def popByte (s : State) : Byte × State :=
  let got := memRead s.sp s
  (got.1, got.2.withSp (got.2.sp + 1))

/-- `Push16(v)` (R73): the high byte first, at SP-1, then the low byte, at SP-2. -/
def push16 (v : Word) (s : State) : State := pushByte (loByte v) (pushByte (hiByte v) s)

/-- `Pop16()` (R73): the low byte, then the high byte. -/
def pop16 (s : State) : Word × State :=
  let lo := popByte s
  let hi := popByte lo.2
  (ofHiLo hi.1 lo.1, hi.2)

/-! ## Fetch (R90, R91) -/

/-- `FetchByte()` (R90): `MemRead(PC, 1)`, then PC is incremented. -/
def fetchByte (s : State) : Byte × State :=
  let got := memRead s.pc s
  (got.1, got.2.withPc (got.2.pc + 1))

/-- `FetchByte()` n times, in address order (R91). -/
def fetchBytes : Nat → State → List Byte × State
  | 0, s => ([], s)
  | n + 1, s =>
    let first := fetchByte s
    let more := fetchBytes n first.2
    (first.1 :: more.1, more.2)

/-- Fetches the instruction at PC: the opcode byte (R90), then the 0, 1 or 2 bytes its format has (R91, R107).
In every instruction rule those reads are the cycles right after the opcode fetch, so they are made here. -/
def fetchInstr (s : State) : List Byte × State :=
  let op := fetchByte s
  let more := fetchBytes (operandCount op.1) op.2
  (op.1 :: more.1, more.2)

/-! ## Fatal errors (R301, R309 to R311) -/

/-- `Fatal(kind, op, pc0)` (R301): records the report and stops the core; nothing else changes. -/
def fatal (kind : FaultKind) (op : Byte) (pc0 : Word) (s : State) : State :=
  (s.withStopped true).withFault (some { kind := kind, opcode := op, pc := pc0 })

/-! ## Interrupts (R303 to R308) -/

/-- `IE & IF & 0x1F` (R303). -/
def pending (s : State) : Byte := s.ie &&& s.intFlags &&& 0x1F

/-- The source to dispatch: the lowest set bit of `pend` (R304), or none. -/
def lowestPending (pend : Byte) : Option IntSource :=
  if pend.getLsbD 0 then some .vblank
  else if pend.getLsbD 1 then some .lcdStat
  else if pend.getLsbD 2 then some .timer
  else if pend.getLsbD 3 then some .serial
  else if pend.getLsbD 4 then some .joypad
  else none

/-- `Dispatch(i)` (R305), the one way an interrupt is taken: five machine cycles, of which two push PC, then
the vector, the IF bit, IME and `halted`. -/
def dispatch (i : IntSource) (s : State) : State :=
  let waited := internal (internal s)
  let pushed := internal (push16 waited.pc waited)
  let cleared := pushed.intFlags &&& ~~~(BitVec.twoPow 8 (sourceBit i))
  (((pushed.withPc (sourceVector i)).withIntFlags cleared).withIme false).withHalted false

/-- The return from an interrupt (R260): pops PC, spends an internal cycle, and sets IME at once (D7). -/
def returnFromInterrupt (s : State) : State :=
  let got := pop16 s
  ((internal got.2).withPc got.1).withIme true

/-- `InterruptPhase()` (R303), with EI's promotion (R307) and the halt wake (R308). -/
def interruptPhase (s : State) : State :=
  if s.ime then
    match lowestPending (pending s) with
    | some i => (dispatch i s).withImeScheduled false
    | none => s.withImeScheduled false
  else
    let woken := if s.halted && decide (pending s ≠ 0) then s.withHalted false else s
    if woken.imeScheduled then (woken.withIme true).withImeScheduled false else woken

/-- The end of a step whose instruction left state `s`: after a fatal error the interrupt phase does not run
(R301, R309); otherwise it does (R303). -/
def endStep (s : State) : State := if s.stopped then s else interruptPhase s

/-- What `step()` returns when it leaves state `s`: false exactly when `stopped` is 1 (R300). -/
def stepReturns (s : State) : Bool := !s.stopped

/-! ## Placing a program from outside (R40, R328; log entry 7) -/

/-- Whether an address is ordinary storage: a byte of BACKING, WRAM or HRAM. -/
def isStorage (addr : Word) : Bool :=
  match regionOf addr with
  | .backing _ => true
  | .wram _ => true
  | .hram _ => true
  | _ => false

/-- Writes bytes at rising addresses, with no machine cycle. -/
def placeBytes : List Byte → Word → State → State
  | [], _, s => s
  | b :: rest, addr, s => placeBytes rest (addr + 1) (busWrite addr b s)

/-- Where an instruction can be placed so that the next step fetches it: at PC when the three bytes there are
storage, else at the recommended entry point (R350). -/
def placeAddress (s : State) : Word :=
  if isStorage s.pc && isStorage (s.pc + 1) && isStorage (s.pc + 2) then s.pc else InitState.recommended.pc

/-- Stores an instruction's bytes where the next step fetches, and makes the core one that fetches: not
halted and not stopped. -/
def placeInstr (bytes : List Byte) (s : State) : State :=
  let at' := placeAddress s
  (((placeBytes bytes at' (s.withPc at')).withHalted false).withStopped false).withFault none

end Sys2Proof.Machine
end

