-- ==== Sys2Proof/Machine/Operands.lean ====
section
/-! DEFINITION. Every operand form: the registers and their 16-bit views (R20 to R22), the 3-bit operand with
its memory form (R99), the pairs of R94, the register-indirect and high-page addresses (R97, R98), the ALU
operand (R160) and conditions (R250). -/

namespace Sys2Proof.Machine

/-- `R[r]` for an 8-bit register (R20). -/
def State.reg (s : State) : Reg8 → Byte
  | .b => s.regs.b
  | .c => s.regs.c
  | .d => s.regs.d
  | .e => s.regs.e
  | .h => s.regs.h
  | .l => s.regs.l
  | .a => s.regs.a

/-- `R[r] <- v` for an 8-bit register (R20). -/
def State.setReg (s : State) (r : Reg8) (v : Byte) : State :=
  match r with
  | .b => s.withRegs { s.regs with b := v }
  | .c => s.withRegs { s.regs with c := v }
  | .d => s.withRegs { s.regs with d := v }
  | .e => s.withRegs { s.regs with e := v }
  | .h => s.withRegs { s.regs with h := v }
  | .l => s.withRegs { s.regs with l := v }
  | .a => s.withRegs { s.regs with a := v }

/-- `R[F]`: the flags as a byte whose low nibble is 0 (R23). -/
def State.f (s : State) : Byte := flagsToByte s.flags

/-- `BC = {B, C}` (R21). -/
def State.bc (s : State) : Word := ofHiLo s.regs.b s.regs.c

/-- `DE = {D, E}` (R21). -/
def State.de (s : State) : Word := ofHiLo s.regs.d s.regs.e

/-- `HL = {H, L}` (R21). -/
def State.hl (s : State) : Word := ofHiLo s.regs.h s.regs.l

/-- `AF = {A, F}` (R21). -/
def State.af (s : State) : Word := ofHiLo s.regs.a s.f

/-- `write16(BC, v)` (R21). -/
def State.setBc (s : State) (v : Word) : State := s.withRegs { s.regs with b := hiByte v, c := loByte v }

/-- `write16(DE, v)` (R21). -/
def State.setDe (s : State) (v : Word) : State := s.withRegs { s.regs with d := hiByte v, e := loByte v }

/-- `write16(HL, v)` (R21). -/
def State.setHl (s : State) (v : Word) : State := s.withRegs { s.regs with h := hiByte v, l := loByte v }

/-- `write16(AF, v)` (R22): F takes the low byte with its low nibble masked away. -/
def State.setAf (s : State) (v : Word) : State :=
  (s.withRegs { s.regs with a := hiByte v }).withFlags (flagsOfByte (loByte v))

/-- `R[rr]` for field `rp` (R94). -/
def State.pair (s : State) : Pair → Word
  | .bc => s.bc
  | .de => s.de
  | .hl => s.hl
  | .sp => s.sp

/-- `R[rr] <- v` for field `rp` (R94). -/
def State.setPair (s : State) (p : Pair) (v : Word) : State :=
  match p with
  | .bc => s.setBc v
  | .de => s.setDe v
  | .hl => s.setHl v
  | .sp => s.withSp v

/-- `R[rr]` for field `rp2` (R94). -/
def State.stackPair (s : State) : StackPair → Word
  | .bc => s.bc
  | .de => s.de
  | .hl => s.hl
  | .af => s.af

/-- `R[rr] <- v` for field `rp2` (R94). -/
def State.setStackPair (s : State) (p : StackPair) (v : Word) : State :=
  match p with
  | .bc => s.setBc v
  | .de => s.setDe v
  | .hl => s.setHl v
  | .af => s.setAf v

/-- The address of `(BC)` or `(DE)` (R98). -/
def State.ptr (s : State) : PtrPair → Word
  | .bc => s.bc
  | .de => s.de

/-- The high-page address `0xFF00 + offset` (R97). -/
def highPage (offset : Byte) : Word := 0xFF00 + zext16 offset

/-- `ReadR8(r)` (R99): a register, or one machine cycle reading the byte at HL. -/
def readLoc : Loc8 → State → Byte × State
  | .reg r, s => (s.reg r, s)
  | .atHl, s => memRead s.hl s

/-- `WriteR8(r, v)` (R99): a register, or one machine cycle writing the byte at HL. -/
def writeLoc : Loc8 → Byte → State → State
  | .reg r, v, s => s.setReg r v
  | .atHl, v, s => memWrite s.hl v s

/-- The operand of an ALU operation (R160). The immediate was fetched with the instruction (R91). -/
def readSrc : AluSrc → State → Byte × State
  | .reg r, s => (s.reg r, s)
  | .atHl, s => memRead s.hl s
  | .imm n8, s => (n8, s)

/-- `Cond(cc)` on the machine's flags (R250). -/
def State.cond (s : State) (cc : Cond) : Bool := condHolds cc s.flags

end Sys2Proof.Machine
end

