-- ==== Sys2Proof/Machine/Alu16.lean ====
section
/-! DEFINITION. The 16-bit arithmetic of 42_alu16.md. -/

namespace Sys2Proof.Machine

/-! ## The shared operations -/

/-- `ADD HL, rr` (R201): one internal cycle. -/
def addHlOp (rr : Pair) (s : State) : State :=
  let out := add16 s.hl (s.pair rr) s.flags
  ((internal s).setHl out.1).withFlags out.2

/-- `INC rr` (R202): one internal cycle, no flag. -/
def incPairOp (rr : Pair) (s : State) : State := (internal s).setPair rr (s.pair rr + 1)

/-- `DEC rr` (R203): one internal cycle, no flag. -/
def decPairOp (rr : Pair) (s : State) : State := (internal s).setPair rr (s.pair rr - 1)

/-- `ADD SP, e8` (R204): two internal cycles. -/
def addSpE8Op (e8 : Byte) (s : State) : State :=
  let out := addSpDisp s.sp e8
  ((internal (internal s)).withSp out.1).withFlags out.2

/-- `LD HL, SP+e8` (R205): one internal cycle. -/
def ldHlSpE8Op (e8 : Byte) (s : State) : State :=
  let out := addSpDisp s.sp e8
  ((internal s).setHl out.1).withFlags out.2

/-! ## The meanings, one per row of the opcode table -/

/-- 03 `INC BC` (R202). -/
def execIncBc (s : State) : Result := .next (incPairOp .bc s)

/-- 09 `ADD HL,BC` (R201). -/
def execAddHlBc (s : State) : Result := .next (addHlOp .bc s)

/-- 0B `DEC BC` (R203). -/
def execDecBc (s : State) : Result := .next (decPairOp .bc s)

/-- 13 `INC DE` (R202). -/
def execIncDe (s : State) : Result := .next (incPairOp .de s)

/-- 19 `ADD HL,DE` (R201). -/
def execAddHlDe (s : State) : Result := .next (addHlOp .de s)

/-- 1B `DEC DE` (R203). -/
def execDecDe (s : State) : Result := .next (decPairOp .de s)

/-- 23 `INC HL` (R202). -/
def execIncHl (s : State) : Result := .next (incPairOp .hl s)

/-- 29 `ADD HL,HL` (R201). -/
def execAddHlHl (s : State) : Result := .next (addHlOp .hl s)

/-- 2B `DEC HL` (R203). -/
def execDecHl (s : State) : Result := .next (decPairOp .hl s)

/-- 33 `INC SP` (R202). -/
def execIncSp (s : State) : Result := .next (incPairOp .sp s)

/-- 39 `ADD HL,SP` (R201). -/
def execAddHlSp (s : State) : Result := .next (addHlOp .sp s)

/-- 3B `DEC SP` (R203). -/
def execDecSp (s : State) : Result := .next (decPairOp .sp s)

/-- E8 `ADD SP,e8` (R204). -/
def execAddSpE8 (e8 : Byte) (s : State) : Result := .next (addSpE8Op e8 s)

/-- F8 `LD HL,SP+e8` (R205). -/
def execLdHlSpE8 (e8 : Byte) (s : State) : Result := .next (ldHlSpE8Op e8 s)

end Sys2Proof.Machine
end

