-- ==== Sys2Proof/Machine/Alu8.lean ====
section
/-! DEFINITION. The 8-bit arithmetic and logic of 41_alu8.md. -/

namespace Sys2Proof.Machine

/-! ## The shared operations -/

/-- Whether an ALU operation writes its result to A: all but CP (R160, R184). -/
def aluWritesA : AluOp → Bool
  | .add => true
  | .adc => true
  | .sub => true
  | .sbc => true
  | .and => true
  | .xor => true
  | .or => true
  | .cp => false

/-- The eight ALU operations on A and an operand (R163 to R186). -/
def aluOp (op : AluOp) (src : AluSrc) (s : State) : State :=
  let got := readSrc src s
  let out := aluCompute op got.2.regs.a got.1 got.2.flags.c
  let written := if aluWritesA op then got.2.setReg .a out.1 else got.2
  written.withFlags out.2

/-- `INC` of a register or of the byte at HL (R187, R188). -/
def incOp (x : Loc8) (s : State) : State :=
  let got := readLoc x s
  let out := inc8 got.1 got.2.flags
  (writeLoc x out.1 got.2).withFlags out.2

/-- `DEC` of a register or of the byte at HL (R189, R190). -/
def decOp (x : Loc8) (s : State) : State :=
  let got := readLoc x s
  let out := dec8 got.1 got.2.flags
  (writeLoc x out.1 got.2).withFlags out.2

/-- `DAA` (R191). -/
def daaOp (s : State) : State :=
  let out := daa8 s.regs.a s.flags
  (s.setReg .a out.1).withFlags out.2

/-- `CPL` (R192): flags `(-, 1, 1, -)`. -/
def cplOp (s : State) : State :=
  (s.setReg .a (~~~s.regs.a)).withFlags { s.flags with n := true, h := true }

/-- `SCF` (R193): flags `(-, 0, 0, 1)`. -/
def scfOp (s : State) : State := s.withFlags { s.flags with n := false, h := false, c := true }

/-- `CCF` (R194): flags `(-, 0, 0, 1 - C)`. -/
def ccfOp (s : State) : State := s.withFlags { s.flags with n := false, h := false, c := !s.flags.c }

/-! ## The meanings, one per row of the opcode table -/

/-- 04 `INC B` (R187). -/
def execIncB (s : State) : Result := .next (incOp (.reg .b) s)

/-- 05 `DEC B` (R189). -/
def execDecB (s : State) : Result := .next (decOp (.reg .b) s)

/-- 0C `INC C` (R187). -/
def execIncC (s : State) : Result := .next (incOp (.reg .c) s)

/-- 0D `DEC C` (R189). -/
def execDecC (s : State) : Result := .next (decOp (.reg .c) s)

/-- 14 `INC D` (R187). -/
def execIncD (s : State) : Result := .next (incOp (.reg .d) s)

/-- 15 `DEC D` (R189). -/
def execDecD (s : State) : Result := .next (decOp (.reg .d) s)

/-- 1C `INC E` (R187). -/
def execIncE (s : State) : Result := .next (incOp (.reg .e) s)

/-- 1D `DEC E` (R189). -/
def execDecE (s : State) : Result := .next (decOp (.reg .e) s)

/-- 24 `INC H` (R187). -/
def execIncH (s : State) : Result := .next (incOp (.reg .h) s)

/-- 25 `DEC H` (R189). -/
def execDecH (s : State) : Result := .next (decOp (.reg .h) s)

/-- 27 `DAA` (R191). -/
def execDaa (s : State) : Result := .next (daaOp s)

/-- 2C `INC L` (R187). -/
def execIncL (s : State) : Result := .next (incOp (.reg .l) s)

/-- 2D `DEC L` (R189). -/
def execDecL (s : State) : Result := .next (decOp (.reg .l) s)

/-- 2F `CPL` (R192). -/
def execCpl (s : State) : Result := .next (cplOp s)

/-- 34 `INC (HL)` (R188). -/
def execIncAtHl (s : State) : Result := .next (incOp .atHl s)

/-- 35 `DEC (HL)` (R190). -/
def execDecAtHl (s : State) : Result := .next (decOp .atHl s)

/-- 37 `SCF` (R193). -/
def execScf (s : State) : Result := .next (scfOp s)

/-- 3C `INC A` (R187). -/
def execIncA (s : State) : Result := .next (incOp (.reg .a) s)

/-- 3D `DEC A` (R189). -/
def execDecA (s : State) : Result := .next (decOp (.reg .a) s)

/-- 3F `CCF` (R194). -/
def execCcf (s : State) : Result := .next (ccfOp s)

/-- 80 `ADD A,B` (R163). -/
def execAddAB (s : State) : Result := .next (aluOp .add (.reg .b) s)

/-- 81 `ADD A,C` (R163). -/
def execAddAC (s : State) : Result := .next (aluOp .add (.reg .c) s)

/-- 82 `ADD A,D` (R163). -/
def execAddAD (s : State) : Result := .next (aluOp .add (.reg .d) s)

/-- 83 `ADD A,E` (R163). -/
def execAddAE (s : State) : Result := .next (aluOp .add (.reg .e) s)

/-- 84 `ADD A,H` (R163). -/
def execAddAH (s : State) : Result := .next (aluOp .add (.reg .h) s)

/-- 85 `ADD A,L` (R163). -/
def execAddAL (s : State) : Result := .next (aluOp .add (.reg .l) s)

/-- 86 `ADD A,(HL)` (R164). -/
def execAddAAtHl (s : State) : Result := .next (aluOp .add .atHl s)

/-- 87 `ADD A,A` (R163). -/
def execAddAA (s : State) : Result := .next (aluOp .add (.reg .a) s)

/-- 88 `ADC A,B` (R166). -/
def execAdcAB (s : State) : Result := .next (aluOp .adc (.reg .b) s)

/-- 89 `ADC A,C` (R166). -/
def execAdcAC (s : State) : Result := .next (aluOp .adc (.reg .c) s)

/-- 8A `ADC A,D` (R166). -/
def execAdcAD (s : State) : Result := .next (aluOp .adc (.reg .d) s)

/-- 8B `ADC A,E` (R166). -/
def execAdcAE (s : State) : Result := .next (aluOp .adc (.reg .e) s)

/-- 8C `ADC A,H` (R166). -/
def execAdcAH (s : State) : Result := .next (aluOp .adc (.reg .h) s)

/-- 8D `ADC A,L` (R166). -/
def execAdcAL (s : State) : Result := .next (aluOp .adc (.reg .l) s)

/-- 8E `ADC A,(HL)` (R167). -/
def execAdcAAtHl (s : State) : Result := .next (aluOp .adc .atHl s)

/-- 8F `ADC A,A` (R166). -/
def execAdcAA (s : State) : Result := .next (aluOp .adc (.reg .a) s)

/-- 90 `SUB B` (R169). -/
def execSubB (s : State) : Result := .next (aluOp .sub (.reg .b) s)

/-- 91 `SUB C` (R169). -/
def execSubC (s : State) : Result := .next (aluOp .sub (.reg .c) s)

/-- 92 `SUB D` (R169). -/
def execSubD (s : State) : Result := .next (aluOp .sub (.reg .d) s)

/-- 93 `SUB E` (R169). -/
def execSubE (s : State) : Result := .next (aluOp .sub (.reg .e) s)

/-- 94 `SUB H` (R169). -/
def execSubH (s : State) : Result := .next (aluOp .sub (.reg .h) s)

/-- 95 `SUB L` (R169). -/
def execSubL (s : State) : Result := .next (aluOp .sub (.reg .l) s)

/-- 96 `SUB (HL)` (R170). -/
def execSubAtHl (s : State) : Result := .next (aluOp .sub .atHl s)

/-- 97 `SUB A` (R169). -/
def execSubA (s : State) : Result := .next (aluOp .sub (.reg .a) s)

/-- 98 `SBC A,B` (R172). -/
def execSbcAB (s : State) : Result := .next (aluOp .sbc (.reg .b) s)

/-- 99 `SBC A,C` (R172). -/
def execSbcAC (s : State) : Result := .next (aluOp .sbc (.reg .c) s)

/-- 9A `SBC A,D` (R172). -/
def execSbcAD (s : State) : Result := .next (aluOp .sbc (.reg .d) s)

/-- 9B `SBC A,E` (R172). -/
def execSbcAE (s : State) : Result := .next (aluOp .sbc (.reg .e) s)

/-- 9C `SBC A,H` (R172). -/
def execSbcAH (s : State) : Result := .next (aluOp .sbc (.reg .h) s)

/-- 9D `SBC A,L` (R172). -/
def execSbcAL (s : State) : Result := .next (aluOp .sbc (.reg .l) s)

/-- 9E `SBC A,(HL)` (R173). -/
def execSbcAAtHl (s : State) : Result := .next (aluOp .sbc .atHl s)

/-- 9F `SBC A,A` (R172). -/
def execSbcAA (s : State) : Result := .next (aluOp .sbc (.reg .a) s)

/-- A0 `AND B` (R175). -/
def execAndB (s : State) : Result := .next (aluOp .and (.reg .b) s)

/-- A1 `AND C` (R175). -/
def execAndC (s : State) : Result := .next (aluOp .and (.reg .c) s)

/-- A2 `AND D` (R175). -/
def execAndD (s : State) : Result := .next (aluOp .and (.reg .d) s)

/-- A3 `AND E` (R175). -/
def execAndE (s : State) : Result := .next (aluOp .and (.reg .e) s)

/-- A4 `AND H` (R175). -/
def execAndH (s : State) : Result := .next (aluOp .and (.reg .h) s)

/-- A5 `AND L` (R175). -/
def execAndL (s : State) : Result := .next (aluOp .and (.reg .l) s)

/-- A6 `AND (HL)` (R176). -/
def execAndAtHl (s : State) : Result := .next (aluOp .and .atHl s)

/-- A7 `AND A` (R175). -/
def execAndA (s : State) : Result := .next (aluOp .and (.reg .a) s)

/-- A8 `XOR B` (R178). -/
def execXorB (s : State) : Result := .next (aluOp .xor (.reg .b) s)

/-- A9 `XOR C` (R178). -/
def execXorC (s : State) : Result := .next (aluOp .xor (.reg .c) s)

/-- AA `XOR D` (R178). -/
def execXorD (s : State) : Result := .next (aluOp .xor (.reg .d) s)

/-- AB `XOR E` (R178). -/
def execXorE (s : State) : Result := .next (aluOp .xor (.reg .e) s)

/-- AC `XOR H` (R178). -/
def execXorH (s : State) : Result := .next (aluOp .xor (.reg .h) s)

/-- AD `XOR L` (R178). -/
def execXorL (s : State) : Result := .next (aluOp .xor (.reg .l) s)

/-- AE `XOR (HL)` (R179). -/
def execXorAtHl (s : State) : Result := .next (aluOp .xor .atHl s)

/-- AF `XOR A` (R178). -/
def execXorA (s : State) : Result := .next (aluOp .xor (.reg .a) s)

/-- B0 `OR B` (R181). -/
def execOrB (s : State) : Result := .next (aluOp .or (.reg .b) s)

/-- B1 `OR C` (R181). -/
def execOrC (s : State) : Result := .next (aluOp .or (.reg .c) s)

/-- B2 `OR D` (R181). -/
def execOrD (s : State) : Result := .next (aluOp .or (.reg .d) s)

/-- B3 `OR E` (R181). -/
def execOrE (s : State) : Result := .next (aluOp .or (.reg .e) s)

/-- B4 `OR H` (R181). -/
def execOrH (s : State) : Result := .next (aluOp .or (.reg .h) s)

/-- B5 `OR L` (R181). -/
def execOrL (s : State) : Result := .next (aluOp .or (.reg .l) s)

/-- B6 `OR (HL)` (R182). -/
def execOrAtHl (s : State) : Result := .next (aluOp .or .atHl s)

/-- B7 `OR A` (R181). -/
def execOrA (s : State) : Result := .next (aluOp .or (.reg .a) s)

/-- B8 `CP B` (R184). -/
def execCpB (s : State) : Result := .next (aluOp .cp (.reg .b) s)

/-- B9 `CP C` (R184). -/
def execCpC (s : State) : Result := .next (aluOp .cp (.reg .c) s)

/-- BA `CP D` (R184). -/
def execCpD (s : State) : Result := .next (aluOp .cp (.reg .d) s)

/-- BB `CP E` (R184). -/
def execCpE (s : State) : Result := .next (aluOp .cp (.reg .e) s)

/-- BC `CP H` (R184). -/
def execCpH (s : State) : Result := .next (aluOp .cp (.reg .h) s)

/-- BD `CP L` (R184). -/
def execCpL (s : State) : Result := .next (aluOp .cp (.reg .l) s)

/-- BE `CP (HL)` (R185). -/
def execCpAtHl (s : State) : Result := .next (aluOp .cp .atHl s)

/-- BF `CP A` (R184). -/
def execCpA (s : State) : Result := .next (aluOp .cp (.reg .a) s)

/-- C6 `ADD A,n8` (R165). -/
def execAddAN8 (n8 : Byte) (s : State) : Result := .next (aluOp .add (.imm n8) s)

/-- CE `ADC A,n8` (R168). -/
def execAdcAN8 (n8 : Byte) (s : State) : Result := .next (aluOp .adc (.imm n8) s)

/-- D6 `SUB n8` (R171). -/
def execSubN8 (n8 : Byte) (s : State) : Result := .next (aluOp .sub (.imm n8) s)

/-- DE `SBC A,n8` (R174). -/
def execSbcAN8 (n8 : Byte) (s : State) : Result := .next (aluOp .sbc (.imm n8) s)

/-- E6 `AND n8` (R177). -/
def execAndN8 (n8 : Byte) (s : State) : Result := .next (aluOp .and (.imm n8) s)

/-- EE `XOR n8` (R180). -/
def execXorN8 (n8 : Byte) (s : State) : Result := .next (aluOp .xor (.imm n8) s)

/-- F6 `OR n8` (R183). -/
def execOrN8 (n8 : Byte) (s : State) : Result := .next (aluOp .or (.imm n8) s)

/-- FE `CP n8` (R186). -/
def execCpN8 (n8 : Byte) (s : State) : Result := .next (aluOp .cp (.imm n8) s)

end Sys2Proof.Machine
end

