-- ==== Sys2Proof/Machine/Bits.lean ====
section
/-! DEFINITION. BIT, RES and SET (R241 to R246). -/

namespace Sys2Proof.Machine

/-! ## The shared operations -/

/-- `BIT b` of a register or of the byte at HL (R241, R242): nothing is written but flags. -/
def bitOp (b : Fin 8) (x : Loc8) (s : State) : State :=
  let got := readLoc x s
  got.2.withFlags (bitFlags b got.1 got.2.flags)

/-- `RES b` (R243, R244): the byte at HL is written back even when it is unchanged. -/
def resOp (b : Fin 8) (x : Loc8) (s : State) : State :=
  let got := readLoc x s
  writeLoc x (clearBit b got.1) got.2

/-- `SET b` (R245, R246): the byte at HL is written back even when it is unchanged. -/
def setOp (b : Fin 8) (x : Loc8) (s : State) : State :=
  let got := readLoc x s
  writeLoc x (setBit b got.1) got.2

/-! ## The meanings, one per row of the opcode table -/

/-- CB 40 `BIT 0,B` (R241). -/
def execBit0B (s : State) : Result := .next (bitOp 0 (.reg .b) s)

/-- CB 41 `BIT 0,C` (R241). -/
def execBit0C (s : State) : Result := .next (bitOp 0 (.reg .c) s)

/-- CB 42 `BIT 0,D` (R241). -/
def execBit0D (s : State) : Result := .next (bitOp 0 (.reg .d) s)

/-- CB 43 `BIT 0,E` (R241). -/
def execBit0E (s : State) : Result := .next (bitOp 0 (.reg .e) s)

/-- CB 44 `BIT 0,H` (R241). -/
def execBit0H (s : State) : Result := .next (bitOp 0 (.reg .h) s)

/-- CB 45 `BIT 0,L` (R241). -/
def execBit0L (s : State) : Result := .next (bitOp 0 (.reg .l) s)

/-- CB 46 `BIT 0,(HL)` (R242). -/
def execBit0AtHl (s : State) : Result := .next (bitOp 0 .atHl s)

/-- CB 47 `BIT 0,A` (R241). -/
def execBit0A (s : State) : Result := .next (bitOp 0 (.reg .a) s)

/-- CB 48 `BIT 1,B` (R241). -/
def execBit1B (s : State) : Result := .next (bitOp 1 (.reg .b) s)

/-- CB 49 `BIT 1,C` (R241). -/
def execBit1C (s : State) : Result := .next (bitOp 1 (.reg .c) s)

/-- CB 4A `BIT 1,D` (R241). -/
def execBit1D (s : State) : Result := .next (bitOp 1 (.reg .d) s)

/-- CB 4B `BIT 1,E` (R241). -/
def execBit1E (s : State) : Result := .next (bitOp 1 (.reg .e) s)

/-- CB 4C `BIT 1,H` (R241). -/
def execBit1H (s : State) : Result := .next (bitOp 1 (.reg .h) s)

/-- CB 4D `BIT 1,L` (R241). -/
def execBit1L (s : State) : Result := .next (bitOp 1 (.reg .l) s)

/-- CB 4E `BIT 1,(HL)` (R242). -/
def execBit1AtHl (s : State) : Result := .next (bitOp 1 .atHl s)

/-- CB 4F `BIT 1,A` (R241). -/
def execBit1A (s : State) : Result := .next (bitOp 1 (.reg .a) s)

/-- CB 50 `BIT 2,B` (R241). -/
def execBit2B (s : State) : Result := .next (bitOp 2 (.reg .b) s)

/-- CB 51 `BIT 2,C` (R241). -/
def execBit2C (s : State) : Result := .next (bitOp 2 (.reg .c) s)

/-- CB 52 `BIT 2,D` (R241). -/
def execBit2D (s : State) : Result := .next (bitOp 2 (.reg .d) s)

/-- CB 53 `BIT 2,E` (R241). -/
def execBit2E (s : State) : Result := .next (bitOp 2 (.reg .e) s)

/-- CB 54 `BIT 2,H` (R241). -/
def execBit2H (s : State) : Result := .next (bitOp 2 (.reg .h) s)

/-- CB 55 `BIT 2,L` (R241). -/
def execBit2L (s : State) : Result := .next (bitOp 2 (.reg .l) s)

/-- CB 56 `BIT 2,(HL)` (R242). -/
def execBit2AtHl (s : State) : Result := .next (bitOp 2 .atHl s)

/-- CB 57 `BIT 2,A` (R241). -/
def execBit2A (s : State) : Result := .next (bitOp 2 (.reg .a) s)

/-- CB 58 `BIT 3,B` (R241). -/
def execBit3B (s : State) : Result := .next (bitOp 3 (.reg .b) s)

/-- CB 59 `BIT 3,C` (R241). -/
def execBit3C (s : State) : Result := .next (bitOp 3 (.reg .c) s)

/-- CB 5A `BIT 3,D` (R241). -/
def execBit3D (s : State) : Result := .next (bitOp 3 (.reg .d) s)

/-- CB 5B `BIT 3,E` (R241). -/
def execBit3E (s : State) : Result := .next (bitOp 3 (.reg .e) s)

/-- CB 5C `BIT 3,H` (R241). -/
def execBit3H (s : State) : Result := .next (bitOp 3 (.reg .h) s)

/-- CB 5D `BIT 3,L` (R241). -/
def execBit3L (s : State) : Result := .next (bitOp 3 (.reg .l) s)

/-- CB 5E `BIT 3,(HL)` (R242). -/
def execBit3AtHl (s : State) : Result := .next (bitOp 3 .atHl s)

/-- CB 5F `BIT 3,A` (R241). -/
def execBit3A (s : State) : Result := .next (bitOp 3 (.reg .a) s)

/-- CB 60 `BIT 4,B` (R241). -/
def execBit4B (s : State) : Result := .next (bitOp 4 (.reg .b) s)

/-- CB 61 `BIT 4,C` (R241). -/
def execBit4C (s : State) : Result := .next (bitOp 4 (.reg .c) s)

/-- CB 62 `BIT 4,D` (R241). -/
def execBit4D (s : State) : Result := .next (bitOp 4 (.reg .d) s)

/-- CB 63 `BIT 4,E` (R241). -/
def execBit4E (s : State) : Result := .next (bitOp 4 (.reg .e) s)

/-- CB 64 `BIT 4,H` (R241). -/
def execBit4H (s : State) : Result := .next (bitOp 4 (.reg .h) s)

/-- CB 65 `BIT 4,L` (R241). -/
def execBit4L (s : State) : Result := .next (bitOp 4 (.reg .l) s)

/-- CB 66 `BIT 4,(HL)` (R242). -/
def execBit4AtHl (s : State) : Result := .next (bitOp 4 .atHl s)

/-- CB 67 `BIT 4,A` (R241). -/
def execBit4A (s : State) : Result := .next (bitOp 4 (.reg .a) s)

/-- CB 68 `BIT 5,B` (R241). -/
def execBit5B (s : State) : Result := .next (bitOp 5 (.reg .b) s)

/-- CB 69 `BIT 5,C` (R241). -/
def execBit5C (s : State) : Result := .next (bitOp 5 (.reg .c) s)

/-- CB 6A `BIT 5,D` (R241). -/
def execBit5D (s : State) : Result := .next (bitOp 5 (.reg .d) s)

/-- CB 6B `BIT 5,E` (R241). -/
def execBit5E (s : State) : Result := .next (bitOp 5 (.reg .e) s)

/-- CB 6C `BIT 5,H` (R241). -/
def execBit5H (s : State) : Result := .next (bitOp 5 (.reg .h) s)

/-- CB 6D `BIT 5,L` (R241). -/
def execBit5L (s : State) : Result := .next (bitOp 5 (.reg .l) s)

/-- CB 6E `BIT 5,(HL)` (R242). -/
def execBit5AtHl (s : State) : Result := .next (bitOp 5 .atHl s)

/-- CB 6F `BIT 5,A` (R241). -/
def execBit5A (s : State) : Result := .next (bitOp 5 (.reg .a) s)

/-- CB 70 `BIT 6,B` (R241). -/
def execBit6B (s : State) : Result := .next (bitOp 6 (.reg .b) s)

/-- CB 71 `BIT 6,C` (R241). -/
def execBit6C (s : State) : Result := .next (bitOp 6 (.reg .c) s)

/-- CB 72 `BIT 6,D` (R241). -/
def execBit6D (s : State) : Result := .next (bitOp 6 (.reg .d) s)

/-- CB 73 `BIT 6,E` (R241). -/
def execBit6E (s : State) : Result := .next (bitOp 6 (.reg .e) s)

/-- CB 74 `BIT 6,H` (R241). -/
def execBit6H (s : State) : Result := .next (bitOp 6 (.reg .h) s)

/-- CB 75 `BIT 6,L` (R241). -/
def execBit6L (s : State) : Result := .next (bitOp 6 (.reg .l) s)

/-- CB 76 `BIT 6,(HL)` (R242). -/
def execBit6AtHl (s : State) : Result := .next (bitOp 6 .atHl s)

/-- CB 77 `BIT 6,A` (R241). -/
def execBit6A (s : State) : Result := .next (bitOp 6 (.reg .a) s)

/-- CB 78 `BIT 7,B` (R241). -/
def execBit7B (s : State) : Result := .next (bitOp 7 (.reg .b) s)

/-- CB 79 `BIT 7,C` (R241). -/
def execBit7C (s : State) : Result := .next (bitOp 7 (.reg .c) s)

/-- CB 7A `BIT 7,D` (R241). -/
def execBit7D (s : State) : Result := .next (bitOp 7 (.reg .d) s)

/-- CB 7B `BIT 7,E` (R241). -/
def execBit7E (s : State) : Result := .next (bitOp 7 (.reg .e) s)

/-- CB 7C `BIT 7,H` (R241). -/
def execBit7H (s : State) : Result := .next (bitOp 7 (.reg .h) s)

/-- CB 7D `BIT 7,L` (R241). -/
def execBit7L (s : State) : Result := .next (bitOp 7 (.reg .l) s)

/-- CB 7E `BIT 7,(HL)` (R242). -/
def execBit7AtHl (s : State) : Result := .next (bitOp 7 .atHl s)

/-- CB 7F `BIT 7,A` (R241). -/
def execBit7A (s : State) : Result := .next (bitOp 7 (.reg .a) s)

/-- CB 80 `RES 0,B` (R243). -/
def execRes0B (s : State) : Result := .next (resOp 0 (.reg .b) s)

/-- CB 81 `RES 0,C` (R243). -/
def execRes0C (s : State) : Result := .next (resOp 0 (.reg .c) s)

/-- CB 82 `RES 0,D` (R243). -/
def execRes0D (s : State) : Result := .next (resOp 0 (.reg .d) s)

/-- CB 83 `RES 0,E` (R243). -/
def execRes0E (s : State) : Result := .next (resOp 0 (.reg .e) s)

/-- CB 84 `RES 0,H` (R243). -/
def execRes0H (s : State) : Result := .next (resOp 0 (.reg .h) s)

/-- CB 85 `RES 0,L` (R243). -/
def execRes0L (s : State) : Result := .next (resOp 0 (.reg .l) s)

/-- CB 86 `RES 0,(HL)` (R244). -/
def execRes0AtHl (s : State) : Result := .next (resOp 0 .atHl s)

/-- CB 87 `RES 0,A` (R243). -/
def execRes0A (s : State) : Result := .next (resOp 0 (.reg .a) s)

/-- CB 88 `RES 1,B` (R243). -/
def execRes1B (s : State) : Result := .next (resOp 1 (.reg .b) s)

/-- CB 89 `RES 1,C` (R243). -/
def execRes1C (s : State) : Result := .next (resOp 1 (.reg .c) s)

/-- CB 8A `RES 1,D` (R243). -/
def execRes1D (s : State) : Result := .next (resOp 1 (.reg .d) s)

/-- CB 8B `RES 1,E` (R243). -/
def execRes1E (s : State) : Result := .next (resOp 1 (.reg .e) s)

/-- CB 8C `RES 1,H` (R243). -/
def execRes1H (s : State) : Result := .next (resOp 1 (.reg .h) s)

/-- CB 8D `RES 1,L` (R243). -/
def execRes1L (s : State) : Result := .next (resOp 1 (.reg .l) s)

/-- CB 8E `RES 1,(HL)` (R244). -/
def execRes1AtHl (s : State) : Result := .next (resOp 1 .atHl s)

/-- CB 8F `RES 1,A` (R243). -/
def execRes1A (s : State) : Result := .next (resOp 1 (.reg .a) s)

/-- CB 90 `RES 2,B` (R243). -/
def execRes2B (s : State) : Result := .next (resOp 2 (.reg .b) s)

/-- CB 91 `RES 2,C` (R243). -/
def execRes2C (s : State) : Result := .next (resOp 2 (.reg .c) s)

/-- CB 92 `RES 2,D` (R243). -/
def execRes2D (s : State) : Result := .next (resOp 2 (.reg .d) s)

/-- CB 93 `RES 2,E` (R243). -/
def execRes2E (s : State) : Result := .next (resOp 2 (.reg .e) s)

/-- CB 94 `RES 2,H` (R243). -/
def execRes2H (s : State) : Result := .next (resOp 2 (.reg .h) s)

/-- CB 95 `RES 2,L` (R243). -/
def execRes2L (s : State) : Result := .next (resOp 2 (.reg .l) s)

/-- CB 96 `RES 2,(HL)` (R244). -/
def execRes2AtHl (s : State) : Result := .next (resOp 2 .atHl s)

/-- CB 97 `RES 2,A` (R243). -/
def execRes2A (s : State) : Result := .next (resOp 2 (.reg .a) s)

/-- CB 98 `RES 3,B` (R243). -/
def execRes3B (s : State) : Result := .next (resOp 3 (.reg .b) s)

/-- CB 99 `RES 3,C` (R243). -/
def execRes3C (s : State) : Result := .next (resOp 3 (.reg .c) s)

/-- CB 9A `RES 3,D` (R243). -/
def execRes3D (s : State) : Result := .next (resOp 3 (.reg .d) s)

/-- CB 9B `RES 3,E` (R243). -/
def execRes3E (s : State) : Result := .next (resOp 3 (.reg .e) s)

/-- CB 9C `RES 3,H` (R243). -/
def execRes3H (s : State) : Result := .next (resOp 3 (.reg .h) s)

/-- CB 9D `RES 3,L` (R243). -/
def execRes3L (s : State) : Result := .next (resOp 3 (.reg .l) s)

/-- CB 9E `RES 3,(HL)` (R244). -/
def execRes3AtHl (s : State) : Result := .next (resOp 3 .atHl s)

/-- CB 9F `RES 3,A` (R243). -/
def execRes3A (s : State) : Result := .next (resOp 3 (.reg .a) s)

/-- CB A0 `RES 4,B` (R243). -/
def execRes4B (s : State) : Result := .next (resOp 4 (.reg .b) s)

/-- CB A1 `RES 4,C` (R243). -/
def execRes4C (s : State) : Result := .next (resOp 4 (.reg .c) s)

/-- CB A2 `RES 4,D` (R243). -/
def execRes4D (s : State) : Result := .next (resOp 4 (.reg .d) s)

/-- CB A3 `RES 4,E` (R243). -/
def execRes4E (s : State) : Result := .next (resOp 4 (.reg .e) s)

/-- CB A4 `RES 4,H` (R243). -/
def execRes4H (s : State) : Result := .next (resOp 4 (.reg .h) s)

/-- CB A5 `RES 4,L` (R243). -/
def execRes4L (s : State) : Result := .next (resOp 4 (.reg .l) s)

/-- CB A6 `RES 4,(HL)` (R244). -/
def execRes4AtHl (s : State) : Result := .next (resOp 4 .atHl s)

/-- CB A7 `RES 4,A` (R243). -/
def execRes4A (s : State) : Result := .next (resOp 4 (.reg .a) s)

/-- CB A8 `RES 5,B` (R243). -/
def execRes5B (s : State) : Result := .next (resOp 5 (.reg .b) s)

/-- CB A9 `RES 5,C` (R243). -/
def execRes5C (s : State) : Result := .next (resOp 5 (.reg .c) s)

/-- CB AA `RES 5,D` (R243). -/
def execRes5D (s : State) : Result := .next (resOp 5 (.reg .d) s)

/-- CB AB `RES 5,E` (R243). -/
def execRes5E (s : State) : Result := .next (resOp 5 (.reg .e) s)

/-- CB AC `RES 5,H` (R243). -/
def execRes5H (s : State) : Result := .next (resOp 5 (.reg .h) s)

/-- CB AD `RES 5,L` (R243). -/
def execRes5L (s : State) : Result := .next (resOp 5 (.reg .l) s)

/-- CB AE `RES 5,(HL)` (R244). -/
def execRes5AtHl (s : State) : Result := .next (resOp 5 .atHl s)

/-- CB AF `RES 5,A` (R243). -/
def execRes5A (s : State) : Result := .next (resOp 5 (.reg .a) s)

/-- CB B0 `RES 6,B` (R243). -/
def execRes6B (s : State) : Result := .next (resOp 6 (.reg .b) s)

/-- CB B1 `RES 6,C` (R243). -/
def execRes6C (s : State) : Result := .next (resOp 6 (.reg .c) s)

/-- CB B2 `RES 6,D` (R243). -/
def execRes6D (s : State) : Result := .next (resOp 6 (.reg .d) s)

/-- CB B3 `RES 6,E` (R243). -/
def execRes6E (s : State) : Result := .next (resOp 6 (.reg .e) s)

/-- CB B4 `RES 6,H` (R243). -/
def execRes6H (s : State) : Result := .next (resOp 6 (.reg .h) s)

/-- CB B5 `RES 6,L` (R243). -/
def execRes6L (s : State) : Result := .next (resOp 6 (.reg .l) s)

/-- CB B6 `RES 6,(HL)` (R244). -/
def execRes6AtHl (s : State) : Result := .next (resOp 6 .atHl s)

/-- CB B7 `RES 6,A` (R243). -/
def execRes6A (s : State) : Result := .next (resOp 6 (.reg .a) s)

/-- CB B8 `RES 7,B` (R243). -/
def execRes7B (s : State) : Result := .next (resOp 7 (.reg .b) s)

/-- CB B9 `RES 7,C` (R243). -/
def execRes7C (s : State) : Result := .next (resOp 7 (.reg .c) s)

/-- CB BA `RES 7,D` (R243). -/
def execRes7D (s : State) : Result := .next (resOp 7 (.reg .d) s)

/-- CB BB `RES 7,E` (R243). -/
def execRes7E (s : State) : Result := .next (resOp 7 (.reg .e) s)

/-- CB BC `RES 7,H` (R243). -/
def execRes7H (s : State) : Result := .next (resOp 7 (.reg .h) s)

/-- CB BD `RES 7,L` (R243). -/
def execRes7L (s : State) : Result := .next (resOp 7 (.reg .l) s)

/-- CB BE `RES 7,(HL)` (R244). -/
def execRes7AtHl (s : State) : Result := .next (resOp 7 .atHl s)

/-- CB BF `RES 7,A` (R243). -/
def execRes7A (s : State) : Result := .next (resOp 7 (.reg .a) s)

/-- CB C0 `SET 0,B` (R245). -/
def execSet0B (s : State) : Result := .next (setOp 0 (.reg .b) s)

/-- CB C1 `SET 0,C` (R245). -/
def execSet0C (s : State) : Result := .next (setOp 0 (.reg .c) s)

/-- CB C2 `SET 0,D` (R245). -/
def execSet0D (s : State) : Result := .next (setOp 0 (.reg .d) s)

/-- CB C3 `SET 0,E` (R245). -/
def execSet0E (s : State) : Result := .next (setOp 0 (.reg .e) s)

/-- CB C4 `SET 0,H` (R245). -/
def execSet0H (s : State) : Result := .next (setOp 0 (.reg .h) s)

/-- CB C5 `SET 0,L` (R245). -/
def execSet0L (s : State) : Result := .next (setOp 0 (.reg .l) s)

/-- CB C6 `SET 0,(HL)` (R246). -/
def execSet0AtHl (s : State) : Result := .next (setOp 0 .atHl s)

/-- CB C7 `SET 0,A` (R245). -/
def execSet0A (s : State) : Result := .next (setOp 0 (.reg .a) s)

/-- CB C8 `SET 1,B` (R245). -/
def execSet1B (s : State) : Result := .next (setOp 1 (.reg .b) s)

/-- CB C9 `SET 1,C` (R245). -/
def execSet1C (s : State) : Result := .next (setOp 1 (.reg .c) s)

/-- CB CA `SET 1,D` (R245). -/
def execSet1D (s : State) : Result := .next (setOp 1 (.reg .d) s)

/-- CB CB `SET 1,E` (R245). -/
def execSet1E (s : State) : Result := .next (setOp 1 (.reg .e) s)

/-- CB CC `SET 1,H` (R245). -/
def execSet1H (s : State) : Result := .next (setOp 1 (.reg .h) s)

/-- CB CD `SET 1,L` (R245). -/
def execSet1L (s : State) : Result := .next (setOp 1 (.reg .l) s)

/-- CB CE `SET 1,(HL)` (R246). -/
def execSet1AtHl (s : State) : Result := .next (setOp 1 .atHl s)

/-- CB CF `SET 1,A` (R245). -/
def execSet1A (s : State) : Result := .next (setOp 1 (.reg .a) s)

/-- CB D0 `SET 2,B` (R245). -/
def execSet2B (s : State) : Result := .next (setOp 2 (.reg .b) s)

/-- CB D1 `SET 2,C` (R245). -/
def execSet2C (s : State) : Result := .next (setOp 2 (.reg .c) s)

/-- CB D2 `SET 2,D` (R245). -/
def execSet2D (s : State) : Result := .next (setOp 2 (.reg .d) s)

/-- CB D3 `SET 2,E` (R245). -/
def execSet2E (s : State) : Result := .next (setOp 2 (.reg .e) s)

/-- CB D4 `SET 2,H` (R245). -/
def execSet2H (s : State) : Result := .next (setOp 2 (.reg .h) s)

/-- CB D5 `SET 2,L` (R245). -/
def execSet2L (s : State) : Result := .next (setOp 2 (.reg .l) s)

/-- CB D6 `SET 2,(HL)` (R246). -/
def execSet2AtHl (s : State) : Result := .next (setOp 2 .atHl s)

/-- CB D7 `SET 2,A` (R245). -/
def execSet2A (s : State) : Result := .next (setOp 2 (.reg .a) s)

/-- CB D8 `SET 3,B` (R245). -/
def execSet3B (s : State) : Result := .next (setOp 3 (.reg .b) s)

/-- CB D9 `SET 3,C` (R245). -/
def execSet3C (s : State) : Result := .next (setOp 3 (.reg .c) s)

/-- CB DA `SET 3,D` (R245). -/
def execSet3D (s : State) : Result := .next (setOp 3 (.reg .d) s)

/-- CB DB `SET 3,E` (R245). -/
def execSet3E (s : State) : Result := .next (setOp 3 (.reg .e) s)

/-- CB DC `SET 3,H` (R245). -/
def execSet3H (s : State) : Result := .next (setOp 3 (.reg .h) s)

/-- CB DD `SET 3,L` (R245). -/
def execSet3L (s : State) : Result := .next (setOp 3 (.reg .l) s)

/-- CB DE `SET 3,(HL)` (R246). -/
def execSet3AtHl (s : State) : Result := .next (setOp 3 .atHl s)

/-- CB DF `SET 3,A` (R245). -/
def execSet3A (s : State) : Result := .next (setOp 3 (.reg .a) s)

/-- CB E0 `SET 4,B` (R245). -/
def execSet4B (s : State) : Result := .next (setOp 4 (.reg .b) s)

/-- CB E1 `SET 4,C` (R245). -/
def execSet4C (s : State) : Result := .next (setOp 4 (.reg .c) s)

/-- CB E2 `SET 4,D` (R245). -/
def execSet4D (s : State) : Result := .next (setOp 4 (.reg .d) s)

/-- CB E3 `SET 4,E` (R245). -/
def execSet4E (s : State) : Result := .next (setOp 4 (.reg .e) s)

/-- CB E4 `SET 4,H` (R245). -/
def execSet4H (s : State) : Result := .next (setOp 4 (.reg .h) s)

/-- CB E5 `SET 4,L` (R245). -/
def execSet4L (s : State) : Result := .next (setOp 4 (.reg .l) s)

/-- CB E6 `SET 4,(HL)` (R246). -/
def execSet4AtHl (s : State) : Result := .next (setOp 4 .atHl s)

/-- CB E7 `SET 4,A` (R245). -/
def execSet4A (s : State) : Result := .next (setOp 4 (.reg .a) s)

/-- CB E8 `SET 5,B` (R245). -/
def execSet5B (s : State) : Result := .next (setOp 5 (.reg .b) s)

/-- CB E9 `SET 5,C` (R245). -/
def execSet5C (s : State) : Result := .next (setOp 5 (.reg .c) s)

/-- CB EA `SET 5,D` (R245). -/
def execSet5D (s : State) : Result := .next (setOp 5 (.reg .d) s)

/-- CB EB `SET 5,E` (R245). -/
def execSet5E (s : State) : Result := .next (setOp 5 (.reg .e) s)

/-- CB EC `SET 5,H` (R245). -/
def execSet5H (s : State) : Result := .next (setOp 5 (.reg .h) s)

/-- CB ED `SET 5,L` (R245). -/
def execSet5L (s : State) : Result := .next (setOp 5 (.reg .l) s)

/-- CB EE `SET 5,(HL)` (R246). -/
def execSet5AtHl (s : State) : Result := .next (setOp 5 .atHl s)

/-- CB EF `SET 5,A` (R245). -/
def execSet5A (s : State) : Result := .next (setOp 5 (.reg .a) s)

/-- CB F0 `SET 6,B` (R245). -/
def execSet6B (s : State) : Result := .next (setOp 6 (.reg .b) s)

/-- CB F1 `SET 6,C` (R245). -/
def execSet6C (s : State) : Result := .next (setOp 6 (.reg .c) s)

/-- CB F2 `SET 6,D` (R245). -/
def execSet6D (s : State) : Result := .next (setOp 6 (.reg .d) s)

/-- CB F3 `SET 6,E` (R245). -/
def execSet6E (s : State) : Result := .next (setOp 6 (.reg .e) s)

/-- CB F4 `SET 6,H` (R245). -/
def execSet6H (s : State) : Result := .next (setOp 6 (.reg .h) s)

/-- CB F5 `SET 6,L` (R245). -/
def execSet6L (s : State) : Result := .next (setOp 6 (.reg .l) s)

/-- CB F6 `SET 6,(HL)` (R246). -/
def execSet6AtHl (s : State) : Result := .next (setOp 6 .atHl s)

/-- CB F7 `SET 6,A` (R245). -/
def execSet6A (s : State) : Result := .next (setOp 6 (.reg .a) s)

/-- CB F8 `SET 7,B` (R245). -/
def execSet7B (s : State) : Result := .next (setOp 7 (.reg .b) s)

/-- CB F9 `SET 7,C` (R245). -/
def execSet7C (s : State) : Result := .next (setOp 7 (.reg .c) s)

/-- CB FA `SET 7,D` (R245). -/
def execSet7D (s : State) : Result := .next (setOp 7 (.reg .d) s)

/-- CB FB `SET 7,E` (R245). -/
def execSet7E (s : State) : Result := .next (setOp 7 (.reg .e) s)

/-- CB FC `SET 7,H` (R245). -/
def execSet7H (s : State) : Result := .next (setOp 7 (.reg .h) s)

/-- CB FD `SET 7,L` (R245). -/
def execSet7L (s : State) : Result := .next (setOp 7 (.reg .l) s)

/-- CB FE `SET 7,(HL)` (R246). -/
def execSet7AtHl (s : State) : Result := .next (setOp 7 .atHl s)

/-- CB FF `SET 7,A` (R245). -/
def execSet7A (s : State) : Result := .next (setOp 7 (.reg .a) s)

end Sys2Proof.Machine
end

