-- ==== Sys2Proof/Machine/Control.lean ====
section
/-! DEFINITION. The control transfers of 44_control.md. -/

namespace Sys2Proof.Machine

/-! ## The shared operations -/

/-- `JP a16` (R251): one internal cycle. -/
def jpOp (a16 : Word) (s : State) : State := (internal s).withPc a16

/-- `JP cc, a16` (R252). -/
def jpCcOp (cc : Cond) (a16 : Word) (s : State) : State := if s.cond cc then jpOp a16 s else s

/-- `JP HL` (R253): no memory is read. -/
def jpHlOp (s : State) : State := s.withPc s.hl

/-- `JR e8` (R254): relative to the address of the next instruction. -/
def jrOp (e8 : Byte) (s : State) : State := (internal s).withPc (s.pc + sext16 e8)

/-- `JR cc, e8` (R255). -/
def jrCcOp (cc : Cond) (e8 : Byte) (s : State) : State := if s.cond cc then jrOp e8 s else s

/-- An internal cycle, the push of PC, and the jump: CALL (R256) and RST (R261). -/
def callTo (target : Word) (s : State) : State :=
  let waited := internal s
  (push16 waited.pc waited).withPc target

/-- `CALL a16` (R256). -/
def callOp (a16 : Word) (s : State) : State := callTo a16 s

/-- `CALL cc, a16` (R257): not taken, it has no stack effect. -/
def callCcOp (cc : Cond) (a16 : Word) (s : State) : State := if s.cond cc then callTo a16 s else s

/-- `RET` (R258): the two pops, then an internal cycle. -/
def retOp (s : State) : State :=
  let got := pop16 s
  (internal got.2).withPc got.1

/-- `RET cc` (R259): an internal cycle whether or not it returns. -/
def retCcOp (cc : Cond) (s : State) : State :=
  let waited := internal s
  if waited.cond cc then retOp waited else waited

/-- `RETI` (R260). -/
def retiOp (s : State) : State := returnFromInterrupt s

/-- `RST t` with `t = y * 8` (R261). -/
def rstOp (y : Fin 8) (s : State) : State := callTo (BitVec.ofNat 16 (y.val * 8)) s

/-! ## The meanings, one per row of the opcode table -/

/-- 18 `JR e8` (R254). -/
def execJrE8 (e8 : Byte) (s : State) : Result := .next (jrOp e8 s)

/-- 20 `JR NZ,e8` (R255). -/
def execJrNzE8 (e8 : Byte) (s : State) : Result := .next (jrCcOp .nz e8 s)

/-- 28 `JR Z,e8` (R255). -/
def execJrZE8 (e8 : Byte) (s : State) : Result := .next (jrCcOp .z e8 s)

/-- 30 `JR NC,e8` (R255). -/
def execJrNcE8 (e8 : Byte) (s : State) : Result := .next (jrCcOp .nc e8 s)

/-- 38 `JR C,e8` (R255). -/
def execJrCE8 (e8 : Byte) (s : State) : Result := .next (jrCcOp .c e8 s)

/-- C0 `RET NZ` (R259). -/
def execRetNz (s : State) : Result := .next (retCcOp .nz s)

/-- C2 `JP NZ,a16` (R252). -/
def execJpNzA16 (a16 : Word) (s : State) : Result := .next (jpCcOp .nz a16 s)

/-- C3 `JP a16` (R251). -/
def execJpA16 (a16 : Word) (s : State) : Result := .next (jpOp a16 s)

/-- C4 `CALL NZ,a16` (R257). -/
def execCallNzA16 (a16 : Word) (s : State) : Result := .next (callCcOp .nz a16 s)

/-- C7 `RST 0x00` (R261). -/
def execRst00 (s : State) : Result := .next (rstOp 0 s)

/-- C8 `RET Z` (R259). -/
def execRetZ (s : State) : Result := .next (retCcOp .z s)

/-- C9 `RET` (R258). -/
def execRet (s : State) : Result := .next (retOp s)

/-- CA `JP Z,a16` (R252). -/
def execJpZA16 (a16 : Word) (s : State) : Result := .next (jpCcOp .z a16 s)

/-- CC `CALL Z,a16` (R257). -/
def execCallZA16 (a16 : Word) (s : State) : Result := .next (callCcOp .z a16 s)

/-- CD `CALL a16` (R256). -/
def execCallA16 (a16 : Word) (s : State) : Result := .next (callOp a16 s)

/-- CF `RST 0x08` (R261). -/
def execRst08 (s : State) : Result := .next (rstOp 1 s)

/-- D0 `RET NC` (R259). -/
def execRetNc (s : State) : Result := .next (retCcOp .nc s)

/-- D2 `JP NC,a16` (R252). -/
def execJpNcA16 (a16 : Word) (s : State) : Result := .next (jpCcOp .nc a16 s)

/-- D4 `CALL NC,a16` (R257). -/
def execCallNcA16 (a16 : Word) (s : State) : Result := .next (callCcOp .nc a16 s)

/-- D7 `RST 0x10` (R261). -/
def execRst10 (s : State) : Result := .next (rstOp 2 s)

/-- D8 `RET C` (R259). -/
def execRetC (s : State) : Result := .next (retCcOp .c s)

/-- D9 `RETI` (R260). -/
def execReti (s : State) : Result := .next (retiOp s)

/-- DA `JP C,a16` (R252). -/
def execJpCA16 (a16 : Word) (s : State) : Result := .next (jpCcOp .c a16 s)

/-- DC `CALL C,a16` (R257). -/
def execCallCA16 (a16 : Word) (s : State) : Result := .next (callCcOp .c a16 s)

/-- DF `RST 0x18` (R261). -/
def execRst18 (s : State) : Result := .next (rstOp 3 s)

/-- E7 `RST 0x20` (R261). -/
def execRst20 (s : State) : Result := .next (rstOp 4 s)

/-- E9 `JP HL` (R253). -/
def execJpHl (s : State) : Result := .next (jpHlOp s)

/-- EF `RST 0x28` (R261). -/
def execRst28 (s : State) : Result := .next (rstOp 5 s)

/-- F7 `RST 0x30` (R261). -/
def execRst30 (s : State) : Result := .next (rstOp 6 s)

/-- FF `RST 0x38` (R261). -/
def execRst38 (s : State) : Result := .next (rstOp 7 s)

end Sys2Proof.Machine
end

