-- ==== Sys2Proof/Machine/Loads.lean ====
section
/-! DEFINITION. The loads and stores of 40_load.md: LD, LDH, LD (HL+) and (HL-), LD rr,n16, LD (a16),SP and LD SP,HL. The
immediate bytes were fetched with the instruction (R91); every other machine cycle is made here. -/

namespace Sys2Proof.Machine

/-! ## The shared operations -/

/-- `LD r, r'` (R120). -/
def ldRegRegOp (dst src : Reg8) (s : State) : State := s.setReg dst (s.reg src)

/-- `LD r, n8` (R121). -/
def ldRegImmOp (dst : Reg8) (n8 : Byte) (s : State) : State := s.setReg dst n8

/-- A load of one byte at `addr` into a register: one read cycle (R122, R125, R126, R129, R131, R133). -/
def loadByteOp (dst : Reg8) (addr : Word) (s : State) : State :=
  let got := memRead addr s
  got.2.setReg dst got.1

/-- `LD r, (HL)` (R122): the address is formed from the old HL. -/
def ldRegAtHlOp (dst : Reg8) (s : State) : State := loadByteOp dst s.hl s

/-- `LD (HL), r` (R123). -/
def ldAtHlRegOp (src : Reg8) (s : State) : State := memWrite s.hl (s.reg src) s

/-- `LD (HL), n8` (R124). -/
def ldAtHlImmOp (n8 : Byte) (s : State) : State := memWrite s.hl n8 s

/-- `LD A, (BC)` and `LD A, (DE)` (R125, R126). -/
def ldAAtPtrOp (p : PtrPair) (s : State) : State := loadByteOp .a (s.ptr p) s

/-- `LD (BC), A` and `LD (DE), A` (R127, R128). -/
def ldAtPtrAOp (p : PtrPair) (s : State) : State := memWrite (s.ptr p) s.regs.a s

/-- `LD A, (a16)` (R129). -/
def ldAAtA16Op (a16 : Word) (s : State) : State := loadByteOp .a a16 s

/-- `LD (a16), A` (R130). -/
def ldAtA16AOp (a16 : Word) (s : State) : State := memWrite a16 s.regs.a s

/-- `LDH A, (C)` (R131). -/
def ldhAAtCOp (s : State) : State := loadByteOp .a (highPage s.regs.c) s

/-- `LDH (C), A` (R132). -/
def ldhAtCAOp (s : State) : State := memWrite (highPage s.regs.c) s.regs.a s

/-- `LDH A, (a8)` (R133). -/
def ldhAAtA8Op (a8 : Byte) (s : State) : State := loadByteOp .a (highPage a8) s

/-- `LDH (a8), A` (R134). -/
def ldhAtA8AOp (a8 : Byte) (s : State) : State := memWrite (highPage a8) s.regs.a s

/-- `LD A, (HL+)` (R135): HL is incremented after the access. -/
def ldAAtHlIncOp (s : State) : State := (loadByteOp .a s.hl s).setHl (s.hl + 1)

/-- `LD A, (HL-)` (R136): HL is decremented after the access. -/
def ldAAtHlDecOp (s : State) : State := (loadByteOp .a s.hl s).setHl (s.hl - 1)

/-- `LD (HL+), A` (R137). -/
def ldAtHlIncAOp (s : State) : State := (memWrite s.hl s.regs.a s).setHl (s.hl + 1)

/-- `LD (HL-), A` (R138). -/
def ldAtHlDecAOp (s : State) : State := (memWrite s.hl s.regs.a s).setHl (s.hl - 1)

/-- `LD rr, n16` (R139). -/
def ldPairImmOp (rr : Pair) (n16 : Word) (s : State) : State := s.setPair rr n16

/-- `LD (a16), SP` (R140): two write cycles, low byte first. -/
def ldAtA16SpOp (a16 : Word) (s : State) : State := memWrite16 a16 s.sp s

/-- `LD SP, HL` (R141): one internal cycle. -/
def ldSpHlOp (s : State) : State := (internal s).withSp s.hl

/-! ## The meanings, one per row of the opcode table -/

/-- 01 `LD BC,n16` (R139). -/
def execLdBcN16 (n16 : Word) (s : State) : Result := .next (ldPairImmOp .bc n16 s)

/-- 02 `LD (BC),A` (R127). -/
def execLdAtBcA (s : State) : Result := .next (ldAtPtrAOp .bc s)

/-- 06 `LD B,n8` (R121). -/
def execLdBN8 (n8 : Byte) (s : State) : Result := .next (ldRegImmOp .b n8 s)

/-- 08 `LD (a16),SP` (R140). -/
def execLdAtA16Sp (a16 : Word) (s : State) : Result := .next (ldAtA16SpOp a16 s)

/-- 0A `LD A,(BC)` (R125). -/
def execLdAAtBc (s : State) : Result := .next (ldAAtPtrOp .bc s)

/-- 0E `LD C,n8` (R121). -/
def execLdCN8 (n8 : Byte) (s : State) : Result := .next (ldRegImmOp .c n8 s)

/-- 11 `LD DE,n16` (R139). -/
def execLdDeN16 (n16 : Word) (s : State) : Result := .next (ldPairImmOp .de n16 s)

/-- 12 `LD (DE),A` (R128). -/
def execLdAtDeA (s : State) : Result := .next (ldAtPtrAOp .de s)

/-- 16 `LD D,n8` (R121). -/
def execLdDN8 (n8 : Byte) (s : State) : Result := .next (ldRegImmOp .d n8 s)

/-- 1A `LD A,(DE)` (R126). -/
def execLdAAtDe (s : State) : Result := .next (ldAAtPtrOp .de s)

/-- 1E `LD E,n8` (R121). -/
def execLdEN8 (n8 : Byte) (s : State) : Result := .next (ldRegImmOp .e n8 s)

/-- 21 `LD HL,n16` (R139). -/
def execLdHlN16 (n16 : Word) (s : State) : Result := .next (ldPairImmOp .hl n16 s)

/-- 22 `LD (HL+),A` (R137). -/
def execLdAtHlIncA (s : State) : Result := .next (ldAtHlIncAOp s)

/-- 26 `LD H,n8` (R121). -/
def execLdHN8 (n8 : Byte) (s : State) : Result := .next (ldRegImmOp .h n8 s)

/-- 2A `LD A,(HL+)` (R135). -/
def execLdAAtHlInc (s : State) : Result := .next (ldAAtHlIncOp s)

/-- 2E `LD L,n8` (R121). -/
def execLdLN8 (n8 : Byte) (s : State) : Result := .next (ldRegImmOp .l n8 s)

/-- 31 `LD SP,n16` (R139). -/
def execLdSpN16 (n16 : Word) (s : State) : Result := .next (ldPairImmOp .sp n16 s)

/-- 32 `LD (HL-),A` (R138). -/
def execLdAtHlDecA (s : State) : Result := .next (ldAtHlDecAOp s)

/-- 36 `LD (HL),n8` (R124). -/
def execLdAtHlN8 (n8 : Byte) (s : State) : Result := .next (ldAtHlImmOp n8 s)

/-- 3A `LD A,(HL-)` (R136). -/
def execLdAAtHlDec (s : State) : Result := .next (ldAAtHlDecOp s)

/-- 3E `LD A,n8` (R121). -/
def execLdAN8 (n8 : Byte) (s : State) : Result := .next (ldRegImmOp .a n8 s)

/-- 40 `LD B,B` (R120). -/
def execLdBB (s : State) : Result := .next (ldRegRegOp .b .b s)

/-- 41 `LD B,C` (R120). -/
def execLdBC (s : State) : Result := .next (ldRegRegOp .b .c s)

/-- 42 `LD B,D` (R120). -/
def execLdBD (s : State) : Result := .next (ldRegRegOp .b .d s)

/-- 43 `LD B,E` (R120). -/
def execLdBE (s : State) : Result := .next (ldRegRegOp .b .e s)

/-- 44 `LD B,H` (R120). -/
def execLdBH (s : State) : Result := .next (ldRegRegOp .b .h s)

/-- 45 `LD B,L` (R120). -/
def execLdBL (s : State) : Result := .next (ldRegRegOp .b .l s)

/-- 46 `LD B,(HL)` (R122). -/
def execLdBAtHl (s : State) : Result := .next (ldRegAtHlOp .b s)

/-- 47 `LD B,A` (R120). -/
def execLdBA (s : State) : Result := .next (ldRegRegOp .b .a s)

/-- 48 `LD C,B` (R120). -/
def execLdCB (s : State) : Result := .next (ldRegRegOp .c .b s)

/-- 49 `LD C,C` (R120). -/
def execLdCC (s : State) : Result := .next (ldRegRegOp .c .c s)

/-- 4A `LD C,D` (R120). -/
def execLdCD (s : State) : Result := .next (ldRegRegOp .c .d s)

/-- 4B `LD C,E` (R120). -/
def execLdCE (s : State) : Result := .next (ldRegRegOp .c .e s)

/-- 4C `LD C,H` (R120). -/
def execLdCH (s : State) : Result := .next (ldRegRegOp .c .h s)

/-- 4D `LD C,L` (R120). -/
def execLdCL (s : State) : Result := .next (ldRegRegOp .c .l s)

/-- 4E `LD C,(HL)` (R122). -/
def execLdCAtHl (s : State) : Result := .next (ldRegAtHlOp .c s)

/-- 4F `LD C,A` (R120). -/
def execLdCA (s : State) : Result := .next (ldRegRegOp .c .a s)

/-- 50 `LD D,B` (R120). -/
def execLdDB (s : State) : Result := .next (ldRegRegOp .d .b s)

/-- 51 `LD D,C` (R120). -/
def execLdDC (s : State) : Result := .next (ldRegRegOp .d .c s)

/-- 52 `LD D,D` (R120). -/
def execLdDD (s : State) : Result := .next (ldRegRegOp .d .d s)

/-- 53 `LD D,E` (R120). -/
def execLdDE (s : State) : Result := .next (ldRegRegOp .d .e s)

/-- 54 `LD D,H` (R120). -/
def execLdDH (s : State) : Result := .next (ldRegRegOp .d .h s)

/-- 55 `LD D,L` (R120). -/
def execLdDL (s : State) : Result := .next (ldRegRegOp .d .l s)

/-- 56 `LD D,(HL)` (R122). -/
def execLdDAtHl (s : State) : Result := .next (ldRegAtHlOp .d s)

/-- 57 `LD D,A` (R120). -/
def execLdDA (s : State) : Result := .next (ldRegRegOp .d .a s)

/-- 58 `LD E,B` (R120). -/
def execLdEB (s : State) : Result := .next (ldRegRegOp .e .b s)

/-- 59 `LD E,C` (R120). -/
def execLdEC (s : State) : Result := .next (ldRegRegOp .e .c s)

/-- 5A `LD E,D` (R120). -/
def execLdED (s : State) : Result := .next (ldRegRegOp .e .d s)

/-- 5B `LD E,E` (R120). -/
def execLdEE (s : State) : Result := .next (ldRegRegOp .e .e s)

/-- 5C `LD E,H` (R120). -/
def execLdEH (s : State) : Result := .next (ldRegRegOp .e .h s)

/-- 5D `LD E,L` (R120). -/
def execLdEL (s : State) : Result := .next (ldRegRegOp .e .l s)

/-- 5E `LD E,(HL)` (R122). -/
def execLdEAtHl (s : State) : Result := .next (ldRegAtHlOp .e s)

/-- 5F `LD E,A` (R120). -/
def execLdEA (s : State) : Result := .next (ldRegRegOp .e .a s)

/-- 60 `LD H,B` (R120). -/
def execLdHB (s : State) : Result := .next (ldRegRegOp .h .b s)

/-- 61 `LD H,C` (R120). -/
def execLdHC (s : State) : Result := .next (ldRegRegOp .h .c s)

/-- 62 `LD H,D` (R120). -/
def execLdHD (s : State) : Result := .next (ldRegRegOp .h .d s)

/-- 63 `LD H,E` (R120). -/
def execLdHE (s : State) : Result := .next (ldRegRegOp .h .e s)

/-- 64 `LD H,H` (R120). -/
def execLdHH (s : State) : Result := .next (ldRegRegOp .h .h s)

/-- 65 `LD H,L` (R120). -/
def execLdHL (s : State) : Result := .next (ldRegRegOp .h .l s)

/-- 66 `LD H,(HL)` (R122). -/
def execLdHAtHl (s : State) : Result := .next (ldRegAtHlOp .h s)

/-- 67 `LD H,A` (R120). -/
def execLdHA (s : State) : Result := .next (ldRegRegOp .h .a s)

/-- 68 `LD L,B` (R120). -/
def execLdLB (s : State) : Result := .next (ldRegRegOp .l .b s)

/-- 69 `LD L,C` (R120). -/
def execLdLC (s : State) : Result := .next (ldRegRegOp .l .c s)

/-- 6A `LD L,D` (R120). -/
def execLdLD (s : State) : Result := .next (ldRegRegOp .l .d s)

/-- 6B `LD L,E` (R120). -/
def execLdLE (s : State) : Result := .next (ldRegRegOp .l .e s)

/-- 6C `LD L,H` (R120). -/
def execLdLH (s : State) : Result := .next (ldRegRegOp .l .h s)

/-- 6D `LD L,L` (R120). -/
def execLdLL (s : State) : Result := .next (ldRegRegOp .l .l s)

/-- 6E `LD L,(HL)` (R122). -/
def execLdLAtHl (s : State) : Result := .next (ldRegAtHlOp .l s)

/-- 6F `LD L,A` (R120). -/
def execLdLA (s : State) : Result := .next (ldRegRegOp .l .a s)

/-- 70 `LD (HL),B` (R123). -/
def execLdAtHlB (s : State) : Result := .next (ldAtHlRegOp .b s)

/-- 71 `LD (HL),C` (R123). -/
def execLdAtHlC (s : State) : Result := .next (ldAtHlRegOp .c s)

/-- 72 `LD (HL),D` (R123). -/
def execLdAtHlD (s : State) : Result := .next (ldAtHlRegOp .d s)

/-- 73 `LD (HL),E` (R123). -/
def execLdAtHlE (s : State) : Result := .next (ldAtHlRegOp .e s)

/-- 74 `LD (HL),H` (R123). -/
def execLdAtHlH (s : State) : Result := .next (ldAtHlRegOp .h s)

/-- 75 `LD (HL),L` (R123). -/
def execLdAtHlL (s : State) : Result := .next (ldAtHlRegOp .l s)

/-- 77 `LD (HL),A` (R123). -/
def execLdAtHlA (s : State) : Result := .next (ldAtHlRegOp .a s)

/-- 78 `LD A,B` (R120). -/
def execLdAB (s : State) : Result := .next (ldRegRegOp .a .b s)

/-- 79 `LD A,C` (R120). -/
def execLdAC (s : State) : Result := .next (ldRegRegOp .a .c s)

/-- 7A `LD A,D` (R120). -/
def execLdAD (s : State) : Result := .next (ldRegRegOp .a .d s)

/-- 7B `LD A,E` (R120). -/
def execLdAE (s : State) : Result := .next (ldRegRegOp .a .e s)

/-- 7C `LD A,H` (R120). -/
def execLdAH (s : State) : Result := .next (ldRegRegOp .a .h s)

/-- 7D `LD A,L` (R120). -/
def execLdAL (s : State) : Result := .next (ldRegRegOp .a .l s)

/-- 7E `LD A,(HL)` (R122). -/
def execLdAAtHl (s : State) : Result := .next (ldRegAtHlOp .a s)

/-- 7F `LD A,A` (R120). -/
def execLdAA (s : State) : Result := .next (ldRegRegOp .a .a s)

/-- E0 `LDH (a8),A` (R134). -/
def execLdhAtA8A (a8 : Byte) (s : State) : Result := .next (ldhAtA8AOp a8 s)

/-- E2 `LDH (C),A` (R132). -/
def execLdhAtCA (s : State) : Result := .next (ldhAtCAOp s)

/-- EA `LD (a16),A` (R130). -/
def execLdAtA16A (a16 : Word) (s : State) : Result := .next (ldAtA16AOp a16 s)

/-- F0 `LDH A,(a8)` (R133). -/
def execLdhAAtA8 (a8 : Byte) (s : State) : Result := .next (ldhAAtA8Op a8 s)

/-- F2 `LDH A,(C)` (R131). -/
def execLdhAAtC (s : State) : Result := .next (ldhAAtCOp s)

/-- F9 `LD SP,HL` (R141). -/
def execLdSpHl (s : State) : Result := .next (ldSpHlOp s)

/-- FA `LD A,(a16)` (R129). -/
def execLdAAtA16 (a16 : Word) (s : State) : Result := .next (ldAAtA16Op a16 s)

end Sys2Proof.Machine
end

