-- ==== Sys2Proof/Machine/Rotates.lean ====
section
/-! DEFINITION. The accumulator rotates (R220 to R223) and the CB rotate and shift group (R224 to R240). -/

namespace Sys2Proof.Machine

/-! ## The shared operations -/

/-- An accumulator rotate: Z, N and H are cleared whatever the result (R220 to R223). -/
def accRotOp (op : RotOp) (s : State) : State :=
  let out := rotCompute op s.regs.a s.flags.c
  (s.setReg .a out.1).withFlags { z := false, n := false, h := false, c := out.2 }

/-- `RLCA` (R220). -/
def rlcaOp (s : State) : State := accRotOp .rlc s

/-- `RRCA` (R221). -/
def rrcaOp (s : State) : State := accRotOp .rrc s

/-- `RLA` (R222). -/
def rlaOp (s : State) : State := accRotOp .rl s

/-- `RRA` (R223). -/
def rraOp (s : State) : State := accRotOp .rr s

/-- A CB rotate or shift, in the frame of R224 (R225 to R240). -/
def rotOp (op : RotOp) (x : Loc8) (s : State) : State :=
  let got := readLoc x s
  let out := rotCompute op got.1 got.2.flags.c
  (writeLoc x out.1 got.2).withFlags (rotFlags out.1 out.2)

/-! ## The meanings, one per row of the opcode table -/

/-- 07 `RLCA` (R220). -/
def execRlca (s : State) : Result := .next (rlcaOp s)

/-- 0F `RRCA` (R221). -/
def execRrca (s : State) : Result := .next (rrcaOp s)

/-- 17 `RLA` (R222). -/
def execRla (s : State) : Result := .next (rlaOp s)

/-- 1F `RRA` (R223). -/
def execRra (s : State) : Result := .next (rraOp s)

/-- CB 00 `RLC B` (R225). -/
def execRlcB (s : State) : Result := .next (rotOp .rlc (.reg .b) s)

/-- CB 01 `RLC C` (R225). -/
def execRlcC (s : State) : Result := .next (rotOp .rlc (.reg .c) s)

/-- CB 02 `RLC D` (R225). -/
def execRlcD (s : State) : Result := .next (rotOp .rlc (.reg .d) s)

/-- CB 03 `RLC E` (R225). -/
def execRlcE (s : State) : Result := .next (rotOp .rlc (.reg .e) s)

/-- CB 04 `RLC H` (R225). -/
def execRlcH (s : State) : Result := .next (rotOp .rlc (.reg .h) s)

/-- CB 05 `RLC L` (R225). -/
def execRlcL (s : State) : Result := .next (rotOp .rlc (.reg .l) s)

/-- CB 06 `RLC (HL)` (R226). -/
def execRlcAtHl (s : State) : Result := .next (rotOp .rlc .atHl s)

/-- CB 07 `RLC A` (R225). -/
def execRlcA (s : State) : Result := .next (rotOp .rlc (.reg .a) s)

/-- CB 08 `RRC B` (R227). -/
def execRrcB (s : State) : Result := .next (rotOp .rrc (.reg .b) s)

/-- CB 09 `RRC C` (R227). -/
def execRrcC (s : State) : Result := .next (rotOp .rrc (.reg .c) s)

/-- CB 0A `RRC D` (R227). -/
def execRrcD (s : State) : Result := .next (rotOp .rrc (.reg .d) s)

/-- CB 0B `RRC E` (R227). -/
def execRrcE (s : State) : Result := .next (rotOp .rrc (.reg .e) s)

/-- CB 0C `RRC H` (R227). -/
def execRrcH (s : State) : Result := .next (rotOp .rrc (.reg .h) s)

/-- CB 0D `RRC L` (R227). -/
def execRrcL (s : State) : Result := .next (rotOp .rrc (.reg .l) s)

/-- CB 0E `RRC (HL)` (R228). -/
def execRrcAtHl (s : State) : Result := .next (rotOp .rrc .atHl s)

/-- CB 0F `RRC A` (R227). -/
def execRrcA (s : State) : Result := .next (rotOp .rrc (.reg .a) s)

/-- CB 10 `RL B` (R229). -/
def execRlB (s : State) : Result := .next (rotOp .rl (.reg .b) s)

/-- CB 11 `RL C` (R229). -/
def execRlC (s : State) : Result := .next (rotOp .rl (.reg .c) s)

/-- CB 12 `RL D` (R229). -/
def execRlD (s : State) : Result := .next (rotOp .rl (.reg .d) s)

/-- CB 13 `RL E` (R229). -/
def execRlE (s : State) : Result := .next (rotOp .rl (.reg .e) s)

/-- CB 14 `RL H` (R229). -/
def execRlH (s : State) : Result := .next (rotOp .rl (.reg .h) s)

/-- CB 15 `RL L` (R229). -/
def execRlL (s : State) : Result := .next (rotOp .rl (.reg .l) s)

/-- CB 16 `RL (HL)` (R230). -/
def execRlAtHl (s : State) : Result := .next (rotOp .rl .atHl s)

/-- CB 17 `RL A` (R229). -/
def execRlA (s : State) : Result := .next (rotOp .rl (.reg .a) s)

/-- CB 18 `RR B` (R231). -/
def execRrB (s : State) : Result := .next (rotOp .rr (.reg .b) s)

/-- CB 19 `RR C` (R231). -/
def execRrC (s : State) : Result := .next (rotOp .rr (.reg .c) s)

/-- CB 1A `RR D` (R231). -/
def execRrD (s : State) : Result := .next (rotOp .rr (.reg .d) s)

/-- CB 1B `RR E` (R231). -/
def execRrE (s : State) : Result := .next (rotOp .rr (.reg .e) s)

/-- CB 1C `RR H` (R231). -/
def execRrH (s : State) : Result := .next (rotOp .rr (.reg .h) s)

/-- CB 1D `RR L` (R231). -/
def execRrL (s : State) : Result := .next (rotOp .rr (.reg .l) s)

/-- CB 1E `RR (HL)` (R232). -/
def execRrAtHl (s : State) : Result := .next (rotOp .rr .atHl s)

/-- CB 1F `RR A` (R231). -/
def execRrA (s : State) : Result := .next (rotOp .rr (.reg .a) s)

/-- CB 20 `SLA B` (R233). -/
def execSlaB (s : State) : Result := .next (rotOp .sla (.reg .b) s)

/-- CB 21 `SLA C` (R233). -/
def execSlaC (s : State) : Result := .next (rotOp .sla (.reg .c) s)

/-- CB 22 `SLA D` (R233). -/
def execSlaD (s : State) : Result := .next (rotOp .sla (.reg .d) s)

/-- CB 23 `SLA E` (R233). -/
def execSlaE (s : State) : Result := .next (rotOp .sla (.reg .e) s)

/-- CB 24 `SLA H` (R233). -/
def execSlaH (s : State) : Result := .next (rotOp .sla (.reg .h) s)

/-- CB 25 `SLA L` (R233). -/
def execSlaL (s : State) : Result := .next (rotOp .sla (.reg .l) s)

/-- CB 26 `SLA (HL)` (R234). -/
def execSlaAtHl (s : State) : Result := .next (rotOp .sla .atHl s)

/-- CB 27 `SLA A` (R233). -/
def execSlaA (s : State) : Result := .next (rotOp .sla (.reg .a) s)

/-- CB 28 `SRA B` (R235). -/
def execSraB (s : State) : Result := .next (rotOp .sra (.reg .b) s)

/-- CB 29 `SRA C` (R235). -/
def execSraC (s : State) : Result := .next (rotOp .sra (.reg .c) s)

/-- CB 2A `SRA D` (R235). -/
def execSraD (s : State) : Result := .next (rotOp .sra (.reg .d) s)

/-- CB 2B `SRA E` (R235). -/
def execSraE (s : State) : Result := .next (rotOp .sra (.reg .e) s)

/-- CB 2C `SRA H` (R235). -/
def execSraH (s : State) : Result := .next (rotOp .sra (.reg .h) s)

/-- CB 2D `SRA L` (R235). -/
def execSraL (s : State) : Result := .next (rotOp .sra (.reg .l) s)

/-- CB 2E `SRA (HL)` (R236). -/
def execSraAtHl (s : State) : Result := .next (rotOp .sra .atHl s)

/-- CB 2F `SRA A` (R235). -/
def execSraA (s : State) : Result := .next (rotOp .sra (.reg .a) s)

/-- CB 30 `SWAP B` (R237). -/
def execSwapB (s : State) : Result := .next (rotOp .swap (.reg .b) s)

/-- CB 31 `SWAP C` (R237). -/
def execSwapC (s : State) : Result := .next (rotOp .swap (.reg .c) s)

/-- CB 32 `SWAP D` (R237). -/
def execSwapD (s : State) : Result := .next (rotOp .swap (.reg .d) s)

/-- CB 33 `SWAP E` (R237). -/
def execSwapE (s : State) : Result := .next (rotOp .swap (.reg .e) s)

/-- CB 34 `SWAP H` (R237). -/
def execSwapH (s : State) : Result := .next (rotOp .swap (.reg .h) s)

/-- CB 35 `SWAP L` (R237). -/
def execSwapL (s : State) : Result := .next (rotOp .swap (.reg .l) s)

/-- CB 36 `SWAP (HL)` (R238). -/
def execSwapAtHl (s : State) : Result := .next (rotOp .swap .atHl s)

/-- CB 37 `SWAP A` (R237). -/
def execSwapA (s : State) : Result := .next (rotOp .swap (.reg .a) s)

/-- CB 38 `SRL B` (R239). -/
def execSrlB (s : State) : Result := .next (rotOp .srl (.reg .b) s)

/-- CB 39 `SRL C` (R239). -/
def execSrlC (s : State) : Result := .next (rotOp .srl (.reg .c) s)

/-- CB 3A `SRL D` (R239). -/
def execSrlD (s : State) : Result := .next (rotOp .srl (.reg .d) s)

/-- CB 3B `SRL E` (R239). -/
def execSrlE (s : State) : Result := .next (rotOp .srl (.reg .e) s)

/-- CB 3C `SRL H` (R239). -/
def execSrlH (s : State) : Result := .next (rotOp .srl (.reg .h) s)

/-- CB 3D `SRL L` (R239). -/
def execSrlL (s : State) : Result := .next (rotOp .srl (.reg .l) s)

/-- CB 3E `SRL (HL)` (R240). -/
def execSrlAtHl (s : State) : Result := .next (rotOp .srl .atHl s)

/-- CB 3F `SRL A` (R239). -/
def execSrlA (s : State) : Result := .next (rotOp .srl (.reg .a) s)

end Sys2Proof.Machine
end

