-- ==== Sys2Proof/Machine/Stack.lean ====
section
/-! DEFINITION. PUSH and POP (R142 to R144). -/

namespace Sys2Proof.Machine

/-! ## The shared operations -/

/-- `PUSH rr` (R142): an internal cycle, then the two pushes. -/
def pushOp (rr : StackPair) (s : State) : State := push16 (s.stackPair rr) (internal s)

/-- `POP rr` and `POP AF` (R143, R144). -/
def popOp (rr : StackPair) (s : State) : State :=
  let got := pop16 s
  got.2.setStackPair rr got.1

/-! ## The meanings, one per row of the opcode table -/

/-- C1 `POP BC` (R143). -/
def execPopBc (s : State) : Result := .next (popOp .bc s)

/-- C5 `PUSH BC` (R142). -/
def execPushBc (s : State) : Result := .next (pushOp .bc s)

/-- D1 `POP DE` (R143). -/
def execPopDe (s : State) : Result := .next (popOp .de s)

/-- D5 `PUSH DE` (R142). -/
def execPushDe (s : State) : Result := .next (pushOp .de s)

/-- E1 `POP HL` (R143). -/
def execPopHl (s : State) : Result := .next (popOp .hl s)

/-- E5 `PUSH HL` (R142). -/
def execPushHl (s : State) : Result := .next (pushOp .hl s)

/-- F1 `POP AF` (R144). -/
def execPopAf (s : State) : Result := .next (popOp .af s)

/-- F5 `PUSH AF` (R142). -/
def execPushAf (s : State) : Result := .next (pushOp .af s)

end Sys2Proof.Machine
end

