-- ==== Sys2Proof/Machine/System.lean ====
section
/-! DEFINITION. The miscellaneous and system instructions of 45_misc.md: NOP, HALT, STOP, DI, EI, PREFIX CB
and the eleven illegal opcodes. -/

namespace Sys2Proof.Machine

/-! ## The shared operations -/

/-- `NOP` (R280): only the opcode fetch happens. -/
def nopOp (s : State) : State := s

/-- `HALT` (R281). -/
def haltOp (s : State) : State := s.withHalted true

/-- `STOP` (R282): raises ExecuteFailure with the address of its own opcode, one byte before PC. Its second
byte is not read. -/
def stopOp (s : State) : State := fatal .executeFailure 0x10 (s.pc - 1) s

/-- `DI` (R283): `ime_scheduled` is not written. -/
def diOp (s : State) : State := s.withIme false

/-- `EI` (R284): schedules IME; the interrupt phase promotes it (R307). -/
def eiOp (s : State) : State := s.withImeScheduled true

/-- `PREFIX CB` with its sub-opcode (R285): decoded by fields (R101) and executed in the frame of R224. -/
def prefixCbOp (sub : Byte) (s : State) : State :=
  let y := sub.extractLsb' 3 3
  let x := loc8OfCode (sub.extractLsb' 0 3).toNat
  match (sub.extractLsb' 6 2).toNat with
  | 0 => rotOp (rotOpOfCode y.toNat) x s
  | 1 => bitOp y.toFin x s
  | 2 => resOp y.toFin x s
  | _ => setOp y.toFin x s

/-- An illegal opcode (R286): raises DecodeFailure with the address of its own byte, one before PC. -/
def illegalOp (op : IllegalOp) (s : State) : State := fatal .decodeFailure op.byte (s.pc - 1) s

/-! ## The meanings, one per row of the opcode table -/

/-- 00 `NOP` (R280). -/
def execNop (s : State) : Result := .next (nopOp s)

/-- 10 `STOP` (R282). -/
def execStop (s : State) : Result := .next (stopOp s)

/-- 76 `HALT` (R281). -/
def execHalt (s : State) : Result := .next (haltOp s)

/-- CB `PREFIX CB` (R285). -/
def execPrefixCb (sub : Byte) (s : State) : Result := .next (prefixCbOp sub s)

/-- D3 `illegal` (R286). -/
def execIllegalD3 (s : State) : Result := .next (illegalOp .xD3 s)

/-- DB `illegal` (R286). -/
def execIllegalDB (s : State) : Result := .next (illegalOp .xDB s)

/-- DD `illegal` (R286). -/
def execIllegalDD (s : State) : Result := .next (illegalOp .xDD s)

/-- E3 `illegal` (R286). -/
def execIllegalE3 (s : State) : Result := .next (illegalOp .xE3 s)

/-- E4 `illegal` (R286). -/
def execIllegalE4 (s : State) : Result := .next (illegalOp .xE4 s)

/-- EB `illegal` (R286). -/
def execIllegalEB (s : State) : Result := .next (illegalOp .xEB s)

/-- EC `illegal` (R286). -/
def execIllegalEC (s : State) : Result := .next (illegalOp .xEC s)

/-- ED `illegal` (R286). -/
def execIllegalED (s : State) : Result := .next (illegalOp .xED s)

/-- F3 `DI` (R283). -/
def execDi (s : State) : Result := .next (diOp s)

/-- F4 `illegal` (R286). -/
def execIllegalF4 (s : State) : Result := .next (illegalOp .xF4 s)

/-- FB `EI` (R284). -/
def execEi (s : State) : Result := .next (eiOp s)

/-- FC `illegal` (R286). -/
def execIllegalFC (s : State) : Result := .next (illegalOp .xFC s)

/-- FD `illegal` (R286). -/
def execIllegalFD (s : State) : Result := .next (illegalOp .xFD s)

end Sys2Proof.Machine
end

