-- ==== Sys2Proof/Machine/Step.lean ====
section
/-! DEFINITION. One step of the core (R300, R301), and the placing of an instruction where a step fetches. -/

namespace Sys2Proof.Machine

/-- Decodes and executes a fetched instruction (R301): `fetched` is its bytes and the state after the fetch,
`pc0` the address of its first byte. The decoder accepts every fetched list (Sys2Proof/Laws/Step.lean); a
rejection would be a bug of the decode tables, which R311 names ContractViolation. -/
def runFetched (pc0 : Word) (fetched : List Byte × State) : Host.Outcome State Fault Refusal :=
  match decode fetched.1 with
  | .error _ => .next (fatal .contractViolation (fetched.1.headD 0) pc0 fetched.2)
  | .ok (i, _) =>
    match exec i fetched.2 with
    | .next t => .next (endStep t)
    | .fault r => .fault r
    | .refused r => .refused r

/-- `step()` (R300, R301): a stopped core does not change; a halted core spends one machine cycle (R302) and
runs the interrupt phase; otherwise fetch, decode, execute and the interrupt phase run in that order. -/
def step (s : State) : Host.Outcome State Fault Refusal :=
  if s.stopped then .next s
  else if s.halted then .next (interruptPhase (internal s))
  else runFetched s.pc (fetchInstr s)

/-- `s` with a table word's instruction stored where `step` fetches next (log entries 6 and 7). -/
def State.withFetchWord (s : State) (nbits w : Nat) : State := placeInstr (tableWordBytes nbits w) s

end Sys2Proof.Machine
end

