-- ==== Sys2Proof/Safety.lean ====
section
/-! DEFINITION. What counts as a safe state, and the vocabulary the claims are written in: the spec's tables of
what an instruction may write (registers, flags, SP, PC, control bits, memory) and of its machine cycles,
written from the rules and not from the meanings. -/

namespace Sys2Proof.Machine

/-! ## Safe states -/

/-- The three arrays are in canonical form. -/
def State.memWf (s : State) : Bool :=
  Memory.wf wramSize s.wram && Memory.wf hramSize s.hram && Memory.wf backingSize s.backing

/-- The next step fetches an instruction: the core is neither stopped nor halted (R301). -/
abbrev State.fetches (s : State) : Prop := s.stopped = false ∧ s.halted = false

/-- The eleven unmapped primary opcodes (R103). -/
def illegalBytes : List Byte := [0xD3, 0xDB, 0xDD, 0xE3, 0xE4, 0xEB, 0xEC, 0xED, 0xF4, 0xFC, 0xFD]

/-- A report the spec can make with PC at `pc` (R309, R310): PC is just past the faulting opcode, an
ExecuteFailure names STOP and a DecodeFailure an unmapped opcode; a ContractViolation never happens (R311). -/
def legalReport (r : FaultReport) (pc : Word) : Prop :=
  pc = r.pc + 1 ∧
    ((r.kind = .executeFailure ∧ r.opcode = 0x10) ∨ (r.kind = .decodeFailure ∧ r.opcode ∈ illegalBytes))

/-- What holds of the core at every step boundary. -/
structure State.Inv (s : State) : Prop where
  /-- the arrays are canonical, each within its size (R38 to R40) -/
  memory : s.memWf = true
  /-- `ime_scheduled` is 0 at every step boundary (R29) -/
  latch : s.imeScheduled = false
  /-- the report stands exactly when the core is stopped (R41) -/
  report : s.stopped = s.fault.isSome
  /-- a fatal error needs a fetch, so a stopped core is not halted (R301, R302) -/
  awake : s.stopped = true → s.halted = false
  /-- and the report is one the spec can make (R309 to R311) -/
  legal : ∀ r, s.fault = some r → legalReport r s.pc

/-! ## The vocabulary of the claims -/

/-- The instruction `i` has the words `words`, and executing it in `s`, the state after those words were
fetched, answers the next state `t`. -/
def Runs (i : Instr) (words : List Byte) (s t : State) : Prop :=
  encode i = words ∧ exec i s = Host.Outcome.next t

/-- What an instruction does: its form, with PREFIX CB resolved to the CB row its sub-opcode names (R285). -/
def opOf (i : Instr) : Form := resolvePrefix i.form

/-- The registers of a pair (R21); SP is none of them (R24). -/
def pairRegs : Pair → List Reg8
  | .bc => [.b, .c]
  | .de => [.d, .e]
  | .hl => [.h, .l]
  | .sp => []

/-- The registers an operand in a register is written to; the byte at HL is no register (R93). -/
def locRegs : Loc8 → List Reg8
  | .reg r => [r]
  | .atHl => []

/-- The registers besides F that a pop writes (R143, R144). -/
def stackPairRegs : StackPair → List Reg8
  | .bc => [.b, .c]
  | .de => [.d, .e]
  | .hl => [.h, .l]
  | .af => [.a]

/-- The 8-bit registers besides F that an instruction may change: its destination, and HL where the addressing
mode steps it (R98). PREFIX CB itself writes none: the CB row it resolves to does. -/
def writesRegs : Form → List Reg8
  | .nop => []
  | .halt => []
  | .stop => []
  | .di => []
  | .ei => []
  | .daa => [.a]
  | .cpl => [.a]
  | .scf => []
  | .ccf => []
  | .rlca => [.a]
  | .rrca => [.a]
  | .rla => [.a]
  | .rra => [.a]
  | .ldRegReg dst _ => [dst]
  | .ldRegImm dst _ => [dst]
  | .ldRegAtHl dst => [dst]
  | .ldAtHlReg _ => []
  | .ldAtHlImm _ => []
  | .ldAAtPtr _ => [.a]
  | .ldAtPtrA _ => []
  | .ldAAtA16 _ => [.a]
  | .ldAtA16A _ => []
  | .ldhAAtC => [.a]
  | .ldhAtCA => []
  | .ldhAAtA8 _ => [.a]
  | .ldhAtA8A _ => []
  | .ldAAtHlInc => [.a, .h, .l]
  | .ldAAtHlDec => [.a, .h, .l]
  | .ldAtHlIncA => [.h, .l]
  | .ldAtHlDecA => [.h, .l]
  | .ldPairImm rr _ => pairRegs rr
  | .ldAtA16Sp _ => []
  | .ldSpHl => []
  | .ldHlSpE8 _ => [.h, .l]
  | .push _ => []
  | .pop rr => stackPairRegs rr
  | .alu op _ => if op = .cp then [] else [.a]
  | .inc x => locRegs x
  | .dec x => locRegs x
  | .addHl _ => [.h, .l]
  | .incPair rr => pairRegs rr
  | .decPair rr => pairRegs rr
  | .addSpE8 _ => []
  | .jp _ => []
  | .jpCc _ _ => []
  | .jpHl => []
  | .jr _ => []
  | .jrCc _ _ => []
  | .call _ => []
  | .callCc _ _ => []
  | .ret => []
  | .retCc _ => []
  | .reti => []
  | .rst _ => []
  | .prefixCb _ => []
  | .illegal _ => []
  | .rot _ x => locRegs x
  | .bit _ _ => []
  | .res _ x => locRegs x
  | .set _ x => locRegs x

/-- The outcome of one flag (R27): unaffected, cleared, set, or computed from the operation. -/
inductive FlagRule where
  | keep
  | clear
  | one
  | computed
deriving DecidableEq, Repr

/-- The outcomes of the four flags, in the order Z N H C. -/
structure FlagRules where
  z : FlagRule
  n : FlagRule
  h : FlagRule
  c : FlagRule
deriving DecidableEq, Repr

/-- The flag line of a pop: only POP AF loads the flags (R143, R144). -/
def popFlagRules : StackPair → FlagRules
  | .af => ⟨.computed, .computed, .computed, .computed⟩
  | .bc => ⟨.keep, .keep, .keep, .keep⟩
  | .de => ⟨.keep, .keep, .keep, .keep⟩
  | .hl => ⟨.keep, .keep, .keep, .keep⟩

/-- The flag lines of the eight ALU operations (R163 to R186). -/
def aluFlagRules : AluOp → FlagRules
  | .add => ⟨.computed, .clear, .computed, .computed⟩
  | .adc => ⟨.computed, .clear, .computed, .computed⟩
  | .sub => ⟨.computed, .one, .computed, .computed⟩
  | .sbc => ⟨.computed, .one, .computed, .computed⟩
  | .and => ⟨.computed, .clear, .one, .clear⟩
  | .xor => ⟨.computed, .clear, .clear, .clear⟩
  | .or => ⟨.computed, .clear, .clear, .clear⟩
  | .cp => ⟨.computed, .one, .computed, .computed⟩

/-- The flag line of each instruction rule (R27; R120 to R286). -/
def flagRules : Form → FlagRules
  | .nop => ⟨.keep, .keep, .keep, .keep⟩
  | .halt => ⟨.keep, .keep, .keep, .keep⟩
  | .stop => ⟨.keep, .keep, .keep, .keep⟩
  | .di => ⟨.keep, .keep, .keep, .keep⟩
  | .ei => ⟨.keep, .keep, .keep, .keep⟩
  | .daa => ⟨.computed, .keep, .clear, .computed⟩
  | .cpl => ⟨.keep, .one, .one, .keep⟩
  | .scf => ⟨.keep, .clear, .clear, .one⟩
  | .ccf => ⟨.keep, .clear, .clear, .computed⟩
  | .rlca => ⟨.clear, .clear, .clear, .computed⟩
  | .rrca => ⟨.clear, .clear, .clear, .computed⟩
  | .rla => ⟨.clear, .clear, .clear, .computed⟩
  | .rra => ⟨.clear, .clear, .clear, .computed⟩
  | .ldRegReg _ _ => ⟨.keep, .keep, .keep, .keep⟩
  | .ldRegImm _ _ => ⟨.keep, .keep, .keep, .keep⟩
  | .ldRegAtHl _ => ⟨.keep, .keep, .keep, .keep⟩
  | .ldAtHlReg _ => ⟨.keep, .keep, .keep, .keep⟩
  | .ldAtHlImm _ => ⟨.keep, .keep, .keep, .keep⟩
  | .ldAAtPtr _ => ⟨.keep, .keep, .keep, .keep⟩
  | .ldAtPtrA _ => ⟨.keep, .keep, .keep, .keep⟩
  | .ldAAtA16 _ => ⟨.keep, .keep, .keep, .keep⟩
  | .ldAtA16A _ => ⟨.keep, .keep, .keep, .keep⟩
  | .ldhAAtC => ⟨.keep, .keep, .keep, .keep⟩
  | .ldhAtCA => ⟨.keep, .keep, .keep, .keep⟩
  | .ldhAAtA8 _ => ⟨.keep, .keep, .keep, .keep⟩
  | .ldhAtA8A _ => ⟨.keep, .keep, .keep, .keep⟩
  | .ldAAtHlInc => ⟨.keep, .keep, .keep, .keep⟩
  | .ldAAtHlDec => ⟨.keep, .keep, .keep, .keep⟩
  | .ldAtHlIncA => ⟨.keep, .keep, .keep, .keep⟩
  | .ldAtHlDecA => ⟨.keep, .keep, .keep, .keep⟩
  | .ldPairImm _ _ => ⟨.keep, .keep, .keep, .keep⟩
  | .ldAtA16Sp _ => ⟨.keep, .keep, .keep, .keep⟩
  | .ldSpHl => ⟨.keep, .keep, .keep, .keep⟩
  | .ldHlSpE8 _ => ⟨.clear, .clear, .computed, .computed⟩
  | .push _ => ⟨.keep, .keep, .keep, .keep⟩
  | .pop rr => popFlagRules rr
  | .alu op _ => aluFlagRules op
  | .inc _ => ⟨.computed, .clear, .computed, .keep⟩
  | .dec _ => ⟨.computed, .one, .computed, .keep⟩
  | .addHl _ => ⟨.keep, .clear, .computed, .computed⟩
  | .incPair _ => ⟨.keep, .keep, .keep, .keep⟩
  | .decPair _ => ⟨.keep, .keep, .keep, .keep⟩
  | .addSpE8 _ => ⟨.clear, .clear, .computed, .computed⟩
  | .jp _ => ⟨.keep, .keep, .keep, .keep⟩
  | .jpCc _ _ => ⟨.keep, .keep, .keep, .keep⟩
  | .jpHl => ⟨.keep, .keep, .keep, .keep⟩
  | .jr _ => ⟨.keep, .keep, .keep, .keep⟩
  | .jrCc _ _ => ⟨.keep, .keep, .keep, .keep⟩
  | .call _ => ⟨.keep, .keep, .keep, .keep⟩
  | .callCc _ _ => ⟨.keep, .keep, .keep, .keep⟩
  | .ret => ⟨.keep, .keep, .keep, .keep⟩
  | .retCc _ => ⟨.keep, .keep, .keep, .keep⟩
  | .reti => ⟨.keep, .keep, .keep, .keep⟩
  | .rst _ => ⟨.keep, .keep, .keep, .keep⟩
  | .prefixCb _ => ⟨.keep, .keep, .keep, .keep⟩
  | .illegal _ => ⟨.keep, .keep, .keep, .keep⟩
  | .rot op _ => if op = .swap then ⟨.computed, .clear, .clear, .clear⟩ else ⟨.computed, .clear, .clear, .computed⟩
  | .bit _ _ => ⟨.computed, .clear, .one, .keep⟩
  | .res _ _ => ⟨.keep, .keep, .keep, .keep⟩
  | .set _ _ => ⟨.keep, .keep, .keep, .keep⟩

/-- A flag that was `before` and is `after` obeys its outcome. -/
def FlagRule.obeyed (r : FlagRule) (before after : Bool) : Prop :=
  match r with
  | .keep => after = before
  | .clear => after = false
  | .one => after = true
  | .computed => True

/-- The instructions that may change SP (R24): the stack transfers and the loads and sums of SP. -/
def writesSp : Form → Bool
  | .nop => false
  | .halt => false
  | .stop => false
  | .di => false
  | .ei => false
  | .daa => false
  | .cpl => false
  | .scf => false
  | .ccf => false
  | .rlca => false
  | .rrca => false
  | .rla => false
  | .rra => false
  | .ldRegReg _ _ => false
  | .ldRegImm _ _ => false
  | .ldRegAtHl _ => false
  | .ldAtHlReg _ => false
  | .ldAtHlImm _ => false
  | .ldAAtPtr _ => false
  | .ldAtPtrA _ => false
  | .ldAAtA16 _ => false
  | .ldAtA16A _ => false
  | .ldhAAtC => false
  | .ldhAtCA => false
  | .ldhAAtA8 _ => false
  | .ldhAtA8A _ => false
  | .ldAAtHlInc => false
  | .ldAAtHlDec => false
  | .ldAtHlIncA => false
  | .ldAtHlDecA => false
  | .ldPairImm rr _ => decide (rr = .sp)
  | .ldAtA16Sp _ => false
  | .ldSpHl => true
  | .ldHlSpE8 _ => false
  | .push _ => true
  | .pop _ => true
  | .alu _ _ => false
  | .inc _ => false
  | .dec _ => false
  | .addHl _ => false
  | .incPair rr => decide (rr = .sp)
  | .decPair rr => decide (rr = .sp)
  | .addSpE8 _ => true
  | .jp _ => false
  | .jpCc _ _ => false
  | .jpHl => false
  | .jr _ => false
  | .jrCc _ _ => false
  | .call _ => true
  | .callCc _ _ => true
  | .ret => true
  | .retCc _ => true
  | .reti => true
  | .rst _ => true
  | .prefixCb _ => false
  | .illegal _ => false
  | .rot _ _ => false
  | .bit _ _ => false
  | .res _ _ => false
  | .set _ _ => false

/-- The control transfers (44_control.md): the instructions that may overwrite PC (R25). -/
def writesPc : Form → Bool
  | .nop => false
  | .halt => false
  | .stop => false
  | .di => false
  | .ei => false
  | .daa => false
  | .cpl => false
  | .scf => false
  | .ccf => false
  | .rlca => false
  | .rrca => false
  | .rla => false
  | .rra => false
  | .ldRegReg _ _ => false
  | .ldRegImm _ _ => false
  | .ldRegAtHl _ => false
  | .ldAtHlReg _ => false
  | .ldAtHlImm _ => false
  | .ldAAtPtr _ => false
  | .ldAtPtrA _ => false
  | .ldAAtA16 _ => false
  | .ldAtA16A _ => false
  | .ldhAAtC => false
  | .ldhAtCA => false
  | .ldhAAtA8 _ => false
  | .ldhAtA8A _ => false
  | .ldAAtHlInc => false
  | .ldAAtHlDec => false
  | .ldAtHlIncA => false
  | .ldAtHlDecA => false
  | .ldPairImm _ _ => false
  | .ldAtA16Sp _ => false
  | .ldSpHl => false
  | .ldHlSpE8 _ => false
  | .push _ => false
  | .pop _ => false
  | .alu _ _ => false
  | .inc _ => false
  | .dec _ => false
  | .addHl _ => false
  | .incPair _ => false
  | .decPair _ => false
  | .addSpE8 _ => false
  | .jp _ => true
  | .jpCc _ _ => true
  | .jpHl => true
  | .jr _ => true
  | .jrCc _ _ => true
  | .call _ => true
  | .callCc _ _ => true
  | .ret => true
  | .retCc _ => true
  | .reti => true
  | .rst _ => true
  | .prefixCb _ => false
  | .illegal _ => false
  | .rot _ _ => false
  | .bit _ _ => false
  | .res _ _ => false
  | .set _ _ => false

/-- Where an 8-bit operand is stored: the byte at HL, or nowhere in memory (R99). -/
def locAddrs (x : Loc8) (s : State) : List Word :=
  match x with
  | .reg _ => []
  | .atHl => [s.hl]

/-- The addresses an instruction stores to, in the order of its write cycles, from the state after its bytes
were fetched (the W cycles of each instruction rule). -/
def storeAddrs : Form → State → List Word
  | .nop, _ => []
  | .halt, _ => []
  | .stop, _ => []
  | .di, _ => []
  | .ei, _ => []
  | .daa, _ => []
  | .cpl, _ => []
  | .scf, _ => []
  | .ccf, _ => []
  | .rlca, _ => []
  | .rrca, _ => []
  | .rla, _ => []
  | .rra, _ => []
  | .ldRegReg _ _, _ => []
  | .ldRegImm _ _, _ => []
  | .ldRegAtHl _, _ => []
  | .ldAtHlReg _, s => [s.hl]
  | .ldAtHlImm _, s => [s.hl]
  | .ldAAtPtr _, _ => []
  | .ldAtPtrA p, s => [s.ptr p]
  | .ldAAtA16 _, _ => []
  | .ldAtA16A a16, _ => [a16]
  | .ldhAAtC, _ => []
  | .ldhAtCA, s => [highPage s.regs.c]
  | .ldhAAtA8 _, _ => []
  | .ldhAtA8A a8, _ => [highPage a8]
  | .ldAAtHlInc, _ => []
  | .ldAAtHlDec, _ => []
  | .ldAtHlIncA, s => [s.hl]
  | .ldAtHlDecA, s => [s.hl]
  | .ldPairImm _ _, _ => []
  | .ldAtA16Sp a16, _ => [a16, a16 + 1]
  | .ldSpHl, _ => []
  | .ldHlSpE8 _, _ => []
  | .push _, s => [s.sp - 1, s.sp - 2]
  | .pop _, _ => []
  | .alu _ _, _ => []
  | .inc x, s => locAddrs x s
  | .dec x, s => locAddrs x s
  | .addHl _, _ => []
  | .incPair _, _ => []
  | .decPair _, _ => []
  | .addSpE8 _, _ => []
  | .jp _, _ => []
  | .jpCc _ _, _ => []
  | .jpHl, _ => []
  | .jr _, _ => []
  | .jrCc _ _, _ => []
  | .call _, s => [s.sp - 1, s.sp - 2]
  | .callCc cc _, s => if s.cond cc then [s.sp - 1, s.sp - 2] else []
  | .ret, _ => []
  | .retCc _, _ => []
  | .reti, _ => []
  | .rst _, s => [s.sp - 1, s.sp - 2]
  | .prefixCb _, _ => []
  | .illegal _, _ => []
  | .rot _ x, s => locAddrs x s
  | .bit _ _, _ => []
  | .res _ x, s => locAddrs x s
  | .set _ x, s => locAddrs x s

/-- Two addresses resolve to the same place of the memory map (R61, R65). -/
abbrev samePlace (a b : Word) : Prop := regionOf a = regionOf b

/-- A cycle count that depends on where the operand is: in a register or at HL. -/
def locCycles (x : Loc8) (inReg atHl : Nat) : Nat :=
  match x with
  | .reg _ => inReg
  | .atHl => atHl

/-- The cycles of an ALU operation by its operand form (R160). -/
def srcCycles : AluSrc → Nat
  | .reg _ => 1
  | .atHl => 2
  | .imm _ => 2

/-- The machine cycles of an instruction, its opcode fetch counted (R358, R224), from the state after its bytes
were fetched, whose flags decide the conditional ones. PREFIX CB itself is counted as its fetch alone: the CB
row it resolves to has the count. -/
def cyclesOf : Form → State → Nat
  | .nop, _ => 1
  | .halt, _ => 1
  | .stop, _ => 1
  | .di, _ => 1
  | .ei, _ => 1
  | .daa, _ => 1
  | .cpl, _ => 1
  | .scf, _ => 1
  | .ccf, _ => 1
  | .rlca, _ => 1
  | .rrca, _ => 1
  | .rla, _ => 1
  | .rra, _ => 1
  | .ldRegReg _ _, _ => 1
  | .ldRegImm _ _, _ => 2
  | .ldRegAtHl _, _ => 2
  | .ldAtHlReg _, _ => 2
  | .ldAtHlImm _, _ => 3
  | .ldAAtPtr _, _ => 2
  | .ldAtPtrA _, _ => 2
  | .ldAAtA16 _, _ => 4
  | .ldAtA16A _, _ => 4
  | .ldhAAtC, _ => 2
  | .ldhAtCA, _ => 2
  | .ldhAAtA8 _, _ => 3
  | .ldhAtA8A _, _ => 3
  | .ldAAtHlInc, _ => 2
  | .ldAAtHlDec, _ => 2
  | .ldAtHlIncA, _ => 2
  | .ldAtHlDecA, _ => 2
  | .ldPairImm _ _, _ => 3
  | .ldAtA16Sp _, _ => 5
  | .ldSpHl, _ => 2
  | .ldHlSpE8 _, _ => 3
  | .push _, _ => 4
  | .pop _, _ => 3
  | .alu _ src, _ => srcCycles src
  | .inc x, _ => locCycles x 1 3
  | .dec x, _ => locCycles x 1 3
  | .addHl _, _ => 2
  | .incPair _, _ => 2
  | .decPair _, _ => 2
  | .addSpE8 _, _ => 4
  | .jp _, _ => 4
  | .jpCc cc _, s => if s.cond cc then 4 else 3
  | .jpHl, _ => 1
  | .jr _, _ => 3
  | .jrCc cc _, s => if s.cond cc then 3 else 2
  | .call _, _ => 6
  | .callCc cc _, s => if s.cond cc then 6 else 3
  | .ret, _ => 4
  | .retCc cc, s => if s.cond cc then 5 else 2
  | .reti, _ => 4
  | .rst _, _ => 4
  | .prefixCb _, _ => 1
  | .illegal _, _ => 1
  | .rot _ x, _ => locCycles x 2 4
  | .bit _ x, _ => locCycles x 2 3
  | .res _ x, _ => locCycles x 2 4
  | .set _ x, _ => locCycles x 2 4

/-- The machine cycles left after an instruction's bytes were fetched, one cycle a byte (R90). -/
def cyclesAfterFetch (i : Instr) (s : State) : Nat := cyclesOf (opOf i) s - (encode i).length

/-- The value of an 8-bit operand and the state after reading it: the byte at HL costs a cycle (R99). -/
def operandAt (x : Loc8) (s : State) : Byte × State :=
  match x with
  | .reg r => (s.reg r, s)
  | .atHl => (busRead s.hl (advance 1 s), advance 1 s)

/-- The value of an ALU operand and the state after reading it (R160). -/
def operandOf (src : AluSrc) (s : State) : Byte × State :=
  match src with
  | .reg r => operandAt (.reg r) s
  | .atHl => operandAt .atHl s
  | .imm n8 => (n8, s)

/-- The words of the three operand forms of an ALU operation with code `ooo`: `10 ooo rrr`, `10 ooo 110` and
`11 ooo 110` with the immediate (R160). -/
def aluWords (ooo : Nat) : AluSrc → List Byte
  | .reg r => [byteOf (0x80 + ooo * 8 + r.code)]
  | .atHl => [byteOf (0x80 + ooo * 8 + 6)]
  | .imm n8 => [byteOf (0xC0 + ooo * 8 + 6), n8]

/-- The state after a result is stored to an 8-bit operand: the byte at HL costs a cycle (R99). -/
def storedAt (x : Loc8) (v : Byte) (s : State) : State :=
  match x with
  | .reg r => s.setReg r v
  | .atHl => busWrite s.hl v (advance 1 s)

/-- The three bytes at PC as the fetch cycles of a step would read them, each after its own tick (R70, R90). -/
def bytesAtPc (s : State) : List Byte :=
  [busRead s.pc (advance 1 s), busRead (s.pc + 1) (advance 2 s), busRead (s.pc + 2) (advance 3 s)]

/-- The state after the fetch of `n` bytes: `n` machine cycles, PC past them (R25, R90). -/
def afterFetch (n : Nat) (s : State) : State := (advance n s).withPc (s.pc + BitVec.ofNat 16 n)

/-- The state after two bytes are pushed from state `s`, with the cycle of each write (R73). -/
def afterPush (v : Word) (s : State) : State :=
  (busWrite (s.sp - 2) (loByte v) (advance 1 (busWrite (s.sp - 1) (hiByte v) (advance 1 s)))).withSp (s.sp - 2)

/-- The word two pops read from state `s`, with the cycle of each read (R73). -/
def poppedWord (s : State) : Word :=
  ofHiLo (busRead (s.sp + 1) (advance 2 s)) (busRead s.sp (advance 1 s))

end Sys2Proof.Machine
end

