-- ==== Sys2Proof/Certificates/Slice0/Obligations.lean ====
section
/-! DEFINITION. The statements for the provers, one `Obligations.<Name>` each; OBLIGATIONS.json lists them with
the rules they rest on. In a statement about `exec`, `s` is the state after the instruction's bytes were
fetched, so PC is past its last byte (R25) and the cycles of the fetch are spent (R90). `Runs i words s t` says
that `i` has the words `words` and that executing it in `s` answers `t`; where the conclusion is an equation of
states, what `t` does not name is unchanged. -/

open Sys2Proof Sys2Proof.Machine

/-! ## Encoding and decoding -/

/-- Words written out from the encoding lines of the rules, one for each family, and the instruction each stands
for: `LD B,C` (R120), `LD BC,0x1234` (R139, R105), `PUSH AF` (R142), `ADD A,0x01` (R165), `XOR (HL)` (R179),
`ADD HL,HL` (R201), `RLA` (R222), `JR -2` (R254), `CALL 0x0200` (R256), `HALT` (R281), `SWAP A` (R237),
`SET 7,(HL)` (R246), and `CB CB` = `SET 1,E` (R285). -/
def Obligations.DecodesSampleWords : Prop :=
  decode [0b01000001] = .ok (.ldBC, []) ∧
  decode [0x01, 0x34, 0x12] = .ok (.ldBcN16 0x1234, []) ∧
  decode [0b11110101] = .ok (.pushAf, []) ∧
  decode [0xC6, 0x01] = .ok (.addAN8 0x01, []) ∧
  decode [0b10101110] = .ok (.xorAtHl, []) ∧
  decode [0b00101001] = .ok (.addHlHl, []) ∧
  decode [0b00010111] = .ok (.rla, []) ∧
  decode [0x18, 0xFE] = .ok (.jrE8 0xFE, []) ∧
  decode [0xCD, 0x00, 0x02] = .ok (.callA16 0x0200, []) ∧
  decode [0b01110110] = .ok (.halt, []) ∧
  decode [0xCB, 0b00110111] = .ok (.swapA, []) ∧
  decode [0xCB, 0b11111110] = .ok (.set7AtHl, []) ∧
  decode [0xCB, 0xCB] = .ok (.set1E, [])

/-- Decoding the words of a well-formed instruction, whatever follows them, gives back the instruction, with
every operand at every value, and what follows. -/
def Obligations.DecodeInvertsEncode : Prop :=
  ∀ (i : Instr) (rest : List Byte), WellFormed i = true → decode (encode i ++ rest) = .ok (i, rest)

/-- What the decoder answers is a well-formed instruction whose words are the bytes it took: no two readings of
the same bytes, and no byte dropped. -/
def Obligations.EncodeInvertsDecode : Prop :=
  ∀ (bytes rest : List Byte) (i : Instr), decode bytes = .ok (i, rest) →
    WellFormed i = true ∧ encode i ++ rest = bytes

/-- The length of an instruction follows from its first byte, by the three lists of R107. -/
def Obligations.LengthFollowsFromFirstByte : Prop :=
  ∀ (op : Byte) (rest tail : List Byte) (i : Instr), decode (op :: rest) = .ok (i, tail) →
    (encode i).length =
      if op ∈ ([0x01, 0x11, 0x21, 0x31, 0x08, 0xC2, 0xCA, 0xD2, 0xDA, 0xC3, 0xC4, 0xCC, 0xD4, 0xDC, 0xCD, 0xEA,
        0xFA] : List Byte) then 3
      else if op ∈ ([0x06, 0x0E, 0x16, 0x1E, 0x26, 0x2E, 0x36, 0x3E, 0x18, 0x20, 0x28, 0x30, 0x38, 0xC6, 0xCE, 0xD6,
        0xDE, 0xE6, 0xEE, 0xF6, 0xFE, 0xE0, 0xF0, 0xE8, 0xF8, 0xCB] : List Byte) then 2
      else 1

/-- The decoder is total: every opcode byte with two bytes after it is read as exactly one instruction or as one
of the eleven unmapped opcodes, and every CB sub-opcode byte as exactly one instruction of the CB space. -/
def Obligations.DecoderIsTotal : Prop :=
  (∀ op b1 b2 : Byte, ∃ i rest, decode [op, b1, b2] = .ok (i, rest) ∧
    ((∃ x, i = (Form.illegal x).instr) ↔ op ∈ illegalBytes)) ∧
  (∀ sub : Byte, ∃ i, decode [0xCB, sub] = .ok (i, []) ∧
    ((∃ op x, i = (Form.rot op x).instr) ∨ (∃ b x, i = (Form.bit b x).instr) ∨
      (∃ b x, i = (Form.res b x).instr) ∨ (∃ b x, i = (Form.set b x).instr)))

/-- The bit-sliced decode of a CB sub-opcode: bits 7-6 the class, bits 5-3 the bit index or the variant in the
order of R102, bits 2-0 the operand in the order of R93; and executing PREFIX CB with a sub-opcode is executing
the instruction so decoded (R285). -/
def Obligations.PrefixRunsTheSlicedInstruction : Prop :=
  (∀ (y : Fin 8) (z : Fin 8) (rest : List Byte),
    let x := [Loc8.reg .b, .reg .c, .reg .d, .reg .e, .reg .h, .reg .l, .atHl, .reg .a].getD z.val .atHl
    let op := [RotOp.rlc, .rrc, .rl, .rr, .sla, .sra, .swap, .srl].getD y.val .srl
    decode (0xCB :: BitVec.ofNat 8 (0 * 64 + y.val * 8 + z.val) :: rest) = .ok ((Form.rot op x).instr, rest) ∧
    decode (0xCB :: BitVec.ofNat 8 (1 * 64 + y.val * 8 + z.val) :: rest) = .ok ((Form.bit y x).instr, rest) ∧
    decode (0xCB :: BitVec.ofNat 8 (2 * 64 + y.val * 8 + z.val) :: rest) = .ok ((Form.res y x).instr, rest) ∧
    decode (0xCB :: BitVec.ofNat 8 (3 * 64 + y.val * 8 + z.val) :: rest) = .ok ((Form.set y x).instr, rest)) ∧
  (∀ (sub : Byte) (s : State), ∃ i t, decode [0xCB, sub] = .ok (i, []) ∧
    exec i s = Host.Outcome.next t ∧ exec (.prefixCb sub) s = Host.Outcome.next t)

/-! ## Registers and flags -/

/-- The register file: a write of one 8-bit register is read back from it and from no other; a pair view is its
two registers, the first-named one high; a write of a view changes just those two; and AF keeps the low nibble
of F at 0. -/
def Obligations.RegisterViewsReadBack : Prop :=
  ∀ (s : State) (v : Word) (w : Byte) (r x : Reg8),
    (s.setReg r w).reg x = (if x = r then w else s.reg x) ∧
    (s.af.toNat = s.regs.a.toNat * 256 + s.f.toNat ∧ s.bc.toNat = s.regs.b.toNat * 256 + s.regs.c.toNat ∧
      s.de.toNat = s.regs.d.toNat * 256 + s.regs.e.toNat ∧ s.hl.toNat = s.regs.h.toNat * 256 + s.regs.l.toNat) ∧
    (s.setBc v = (s.setReg .b (v.extractLsb' 8 8)).setReg .c (v.extractLsb' 0 8) ∧
      s.setDe v = (s.setReg .d (v.extractLsb' 8 8)).setReg .e (v.extractLsb' 0 8) ∧
      s.setHl v = (s.setReg .h (v.extractLsb' 8 8)).setReg .l (v.extractLsb' 0 8)) ∧
    ((s.setBc v).bc = v ∧ (s.setDe v).de = v ∧ (s.setHl v).hl = v ∧ (s.withSp v).sp = v) ∧
    ((s.setAf v).regs.a = v.extractLsb' 8 8 ∧ (s.setAf v).f = v.extractLsb' 0 8 &&& 0xF0 ∧
      (s.setAf v).af = v &&& 0xFFF0 ∧ ((s.setAf v).withRegs s.regs).withFlags s.flags = s ∧
      ∀ y, y ≠ .a → (s.setAf v).reg y = s.reg y)

/-- F read as a byte: Z, N, H and C are bits 7, 6, 5 and 4 and the low nibble is 0; and a byte written to F
keeps only its high nibble. -/
def Obligations.FlagByteMasksLowNibble : Prop :=
  ∀ (s : State) (v : Byte),
    (s.f.getLsbD 7 = s.flags.z ∧ s.f.getLsbD 6 = s.flags.n ∧ s.f.getLsbD 5 = s.flags.h ∧ s.f.getLsbD 4 = s.flags.c ∧
      s.f &&& 0x0F = 0) ∧
    flagsToByte (flagsOfByte v) = v &&& 0xF0

/-! ## Loads and stores -/

/-- `LD r, r'` and `LD r, n8`. -/
def Obligations.RegisterLoads : Prop :=
  ∀ (i : Instr) (dst src : Reg8) (n8 : Byte) (s : State),
    (opOf i = .ldRegReg dst src →
      Runs i [BitVec.ofNat 8 (0b01000000 + dst.code * 8 + src.code)] s (s.setReg dst (s.reg src))) ∧
    (opOf i = .ldRegImm dst n8 →
      Runs i [BitVec.ofNat 8 (0b00000110 + dst.code * 8), n8] s (s.setReg dst n8))

/-- The byte loads from memory: the read cycle ticks first, and the address is formed from the old registers. -/
def Obligations.MemoryLoads : Prop :=
  ∀ (i : Instr) (dst : Reg8) (a16 : Word) (a8 : Byte) (s : State),
    let loaded (r : Reg8) (addr : Word) : State := (advance 1 s).setReg r (busRead addr (advance 1 s))
    (opOf i = .ldRegAtHl dst →
      Runs i [BitVec.ofNat 8 (0b01000110 + dst.code * 8)] s (loaded dst s.hl)) ∧
    (opOf i = .ldAAtPtr .bc → Runs i [0x0A] s (loaded .a s.bc)) ∧
    (opOf i = .ldAAtPtr .de → Runs i [0x1A] s (loaded .a s.de)) ∧
    (opOf i = .ldAAtA16 a16 → Runs i [0xFA, a16.extractLsb' 0 8, a16.extractLsb' 8 8] s (loaded .a a16)) ∧
    (opOf i = .ldhAAtC → Runs i [0xF2] s (loaded .a (0xFF00 + s.regs.c.setWidth 16))) ∧
    (opOf i = .ldhAAtA8 a8 → Runs i [0xF0, a8] s (loaded .a (0xFF00 + a8.setWidth 16)))

/-- The byte stores to memory: the write cycle ticks first, then the byte is written on the bus; no register
and no flag changes. -/
def Obligations.ByteStores : Prop :=
  ∀ (i : Instr) (src : Reg8) (n8 a8 : Byte) (a16 : Word) (s : State),
    let stored (addr : Word) (v : Byte) : State := busWrite addr v (advance 1 s)
    (opOf i = .ldAtHlReg src → Runs i [BitVec.ofNat 8 (0b01110000 + src.code)] s (stored s.hl (s.reg src))) ∧
    (opOf i = .ldAtHlImm n8 → Runs i [0x36, n8] s (stored s.hl n8)) ∧
    (opOf i = .ldAtPtrA .bc → Runs i [0x02] s (stored s.bc s.regs.a)) ∧
    (opOf i = .ldAtPtrA .de → Runs i [0x12] s (stored s.de s.regs.a)) ∧
    (opOf i = .ldAtA16A a16 →
      Runs i [0xEA, a16.extractLsb' 0 8, a16.extractLsb' 8 8] s (stored a16 s.regs.a)) ∧
    (opOf i = .ldhAtCA → Runs i [0xE2] s (stored (0xFF00 + s.regs.c.setWidth 16) s.regs.a)) ∧
    (opOf i = .ldhAtA8A a8 → Runs i [0xE0, a8] s (stored (0xFF00 + a8.setWidth 16) s.regs.a))

/-- The loads and stores through (HL+) and (HL-): the access is made at the old HL, then HL is stepped, modulo
2^16. -/
def Obligations.SteppedHlLoadsAndStores : Prop :=
  ∀ (i : Instr) (s : State),
    let loaded : State := (advance 1 s).setReg .a (busRead s.hl (advance 1 s))
    let stored : State := busWrite s.hl s.regs.a (advance 1 s)
    (opOf i = .ldAAtHlInc → Runs i [0x2A] s (loaded.setHl (s.hl + 1))) ∧
    (opOf i = .ldAAtHlDec → Runs i [0x3A] s (loaded.setHl (s.hl - 1))) ∧
    (opOf i = .ldAtHlIncA → Runs i [0x22] s (stored.setHl (s.hl + 1))) ∧
    (opOf i = .ldAtHlDecA → Runs i [0x32] s (stored.setHl (s.hl - 1)))

/-- `LD rr, n16`, the immediate low byte first; `LD SP, HL`, with its internal cycle; and `LD (a16), SP`, whose
two write cycles store the low byte at a16 and then the high byte at a16 + 1, modulo 2^16. -/
def Obligations.PairLoadsAndSpStore : Prop :=
  ∀ (i : Instr) (rr : Pair) (v : Word) (s : State),
    (opOf i = .ldPairImm rr v →
      Runs i [BitVec.ofNat 8 (0b00000001 + rr.code * 16), v.extractLsb' 0 8, v.extractLsb' 8 8] s (s.setPair rr v)) ∧
    (opOf i = .ldSpHl → Runs i [0xF9] s ((advance 1 s).withSp s.hl)) ∧
    (opOf i = .ldAtA16Sp v →
      Runs i [0x08, v.extractLsb' 0 8, v.extractLsb' 8 8] s
        (busWrite (v + 1) (s.sp.extractLsb' 8 8) (advance 1 (busWrite v (s.sp.extractLsb' 0 8) (advance 1 s)))))

/-! ## The stack -/

/-- `PUSH rr`: an internal cycle, the high byte at SP-1, the low byte at SP-2, SP down by 2, all modulo 2^16. -/
def Obligations.PushStoresPair : Prop :=
  ∀ (i : Instr) (rr : StackPair) (s : State), opOf i = .push rr →
    Runs i [BitVec.ofNat 8 (0b11000101 + rr.code * 16)] s
      ((busWrite (s.sp - 2) ((s.stackPair rr).extractLsb' 0 8)
        (advance 1 (busWrite (s.sp - 1) ((s.stackPair rr).extractLsb' 8 8) (advance 2 s)))).withSp (s.sp - 2))

/-- `POP rr` and `POP AF`: the low byte from SP, the high byte from SP+1, SP up by 2, and F's low nibble stays
0. -/
def Obligations.PopLoadsPair : Prop :=
  ∀ (i : Instr) (s : State),
    let lo := busRead s.sp (advance 1 s)
    let hi := busRead (s.sp + 1) (advance 2 s)
    let popped : State := (advance 2 s).withSp (s.sp + 2)
    (opOf i = .pop .bc → Runs i [0xC1] s ((popped.setReg .b hi).setReg .c lo)) ∧
    (opOf i = .pop .de → Runs i [0xD1] s ((popped.setReg .d hi).setReg .e lo)) ∧
    (opOf i = .pop .hl → Runs i [0xE1] s ((popped.setReg .h hi).setReg .l lo)) ∧
    (opOf i = .pop .af → Runs i [0xF1] s ((popped.setReg .a hi).withFlags
      { z := lo.getLsbD 7, n := lo.getLsbD 6, h := lo.getLsbD 5, c := lo.getLsbD 4 }))

/-- `POP` after `PUSH` gives back what was pushed, where both stack bytes are storage: any pair pushed from `s`
and popped in the state after the push, with the opcode of the POP fetched in between, arrives whole in the
popped pair, and SP is back. -/
def Obligations.PopAfterPushRestores : Prop :=
  ∀ (pushed popped : StackPair) (s : State), s.memWf = true →
    isStorage (s.sp - 1) = true → isStorage (s.sp - 2) = true →
    ∃ t u, exec (Form.push pushed).instr s = Host.Outcome.next t ∧
      exec (Form.pop popped).instr (afterFetch 1 t) = Host.Outcome.next u ∧
      u.sp = s.sp ∧
      u.stackPair popped = (if popped = .af then s.stackPair pushed &&& 0xFFF0 else s.stackPair pushed)

/-! ## 8-bit arithmetic and logic -/

/-- ADD and ADC in their three operand forms: the exact sum, the carries out of bits 3 and 7. -/
def Obligations.AdditionsSetAccumulatorAndFlags : Prop :=
  ∀ (i : Instr) (src : AluSrc) (s : State),
    let v := (operandOf src s).1
    let m := (operandOf src s).2
    let out (cin : Nat) : State :=
      let sum := s.regs.a.toNat + v.toNat + cin
      (m.setReg .a (BitVec.ofNat 8 sum)).withFlags
        { z := decide (sum % 256 = 0), n := false
          h := decide (s.regs.a.toNat % 16 + v.toNat % 16 + cin > 0x0F), c := decide (sum > 0xFF) }
    (opOf i = .alu .add src → Runs i (aluWords 0 src) s (out 0)) ∧
    (opOf i = .alu .adc src → Runs i (aluWords 1 src) s (out s.flags.c.toNat))

/-- SUB, SBC and CP in their three operand forms: the difference modulo 256, the borrows out of bits 3 and 7;
CP leaves A. -/
def Obligations.SubtractionsSetAccumulatorAndFlags : Prop :=
  ∀ (i : Instr) (src : AluSrc) (s : State),
    let v := (operandOf src s).1
    let m := (operandOf src s).2
    let diff (cin : Nat) : Nat := s.regs.a.toNat + 256 - v.toNat - cin
    let flags (cin : Nat) : Flags :=
      { z := decide (diff cin % 256 = 0), n := true
        h := decide (s.regs.a.toNat % 16 < v.toNat % 16 + cin), c := decide (s.regs.a.toNat < v.toNat + cin) }
    (opOf i = .alu .sub src →
      Runs i (aluWords 2 src) s ((m.setReg .a (BitVec.ofNat 8 (diff 0))).withFlags (flags 0))) ∧
    (opOf i = .alu .sbc src →
      Runs i (aluWords 3 src) s
        ((m.setReg .a (BitVec.ofNat 8 (diff s.flags.c.toNat))).withFlags (flags s.flags.c.toNat))) ∧
    (opOf i = .alu .cp src → Runs i (aluWords 7 src) s (m.withFlags (flags 0)))

/-- AND, XOR and OR in their three operand forms. -/
def Obligations.LogicSetsAccumulatorAndFlags : Prop :=
  ∀ (i : Instr) (src : AluSrc) (s : State),
    let v := (operandOf src s).1
    let m := (operandOf src s).2
    let out (res : Byte) (h : Bool) : State :=
      (m.setReg .a res).withFlags { z := decide (res = 0), n := false, h := h, c := false }
    (opOf i = .alu .and src → Runs i (aluWords 4 src) s (out (s.regs.a &&& v) true)) ∧
    (opOf i = .alu .xor src → Runs i (aluWords 5 src) s (out (s.regs.a ^^^ v) false)) ∧
    (opOf i = .alu .or src → Runs i (aluWords 6 src) s (out (s.regs.a ||| v) false))

/-- INC and DEC of a register and of the byte at HL: modulo 256, with the carry or borrow of bit 3 and C
unaffected. -/
def Obligations.IncDecSetByteAndFlags : Prop :=
  ∀ (i : Instr) (x : Loc8) (s : State),
    let v := (operandAt x s).1
    let m := (operandAt x s).2
    (opOf i = .inc x → Runs i [BitVec.ofNat 8 (0b00000100 + x.code * 8)] s
      ((storedAt x (v + 1) m).withFlags
        { z := decide (v = 0xFF), n := false, h := decide (v.toNat % 16 = 0x0F), c := s.flags.c })) ∧
    (opOf i = .dec x → Runs i [BitVec.ofNat 8 (0b00000101 + x.code * 8)] s
      ((storedAt x (v - 1) m).withFlags
        { z := decide (v = 0x01), n := true, h := decide (v.toNat % 16 = 0x00), c := s.flags.c }))

/-- DAA: after an addition 0x60 and 0x06 are added where the carries or the digits ask for it, after a
subtraction they are subtracted where the borrows ask for it; C is set by the high correction of the add case
and otherwise unchanged. -/
def Obligations.DaaCorrects : Prop :=
  ∀ (i : Instr) (s : State), opOf i = .daa →
    let a := s.regs.a.toNat
    let high := s.flags.c || (!s.flags.n && decide (a > 0x99))
    let low := s.flags.h || (!s.flags.n && decide (a % 16 > 0x09))
    let corr := (if high then 0x60 else 0) + (if low then 0x06 else 0)
    let res := BitVec.ofNat 8 (if s.flags.n then a + 256 - corr else a + corr)
    Runs i [0b00100111] s ((s.setReg .a res).withFlags
      { z := decide (res = 0), n := s.flags.n, h := false, c := high })

/-- Packed decimal arithmetic: for two numbers below 100 in packed decimal, an addition or subtraction of a
register followed by DAA leaves the decimal result modulo 100 in A and the decimal carry or borrow in C. -/
def Obligations.DaaMakesDecimalArithmetic : Prop :=
  ∀ (r : Reg8) (s : State) (x y : Nat), x < 100 → y < 100 →
    let bcd (k : Nat) : Byte := BitVec.ofNat 8 (k / 10 * 16 + k % 10)
    let decimal (op : AluOp) (res : Nat) (carry : Bool) : Prop :=
      ∃ t u, exec (Form.alu op (.reg r)).instr s = Host.Outcome.next t ∧
        exec .daa (afterFetch 1 t) = Host.Outcome.next u ∧ u.regs.a = bcd res ∧ u.flags.c = carry
    let cin := s.flags.c.toNat
    s.regs.a = bcd x → s.reg r = bcd y →
      decimal .add ((x + y) % 100) (decide (x + y > 99)) ∧
      decimal .adc ((x + y + cin) % 100) (decide (x + y + cin > 99)) ∧
      decimal .sub ((x + 100 - y) % 100) (decide (x < y)) ∧
      decimal .sbc ((x + 100 - y - cin) % 100) (decide (x < y + cin))

/-- CPL, SCF and CCF. -/
def Obligations.CplScfCcfResults : Prop :=
  ∀ (i : Instr) (s : State),
    (opOf i = .cpl → Runs i [0b00101111] s ((s.setReg .a (BitVec.ofNat 8 (255 - s.regs.a.toNat))).withFlags
      { z := s.flags.z, n := true, h := true, c := s.flags.c })) ∧
    (opOf i = .scf → Runs i [0b00110111] s (s.withFlags { z := s.flags.z, n := false, h := false, c := true })) ∧
    (opOf i = .ccf → Runs i [0b00111111] s (s.withFlags { z := s.flags.z, n := false, h := false, c := !s.flags.c }))

/-! ## 16-bit arithmetic -/

/-- ADD HL,rr, INC rr and DEC rr, each with its internal cycle: the sum modulo 2^16 with the carries out of bits
11 and 15, and the two that write no flag. -/
def Obligations.PairArithmetic : Prop :=
  ∀ (i : Instr) (rr : Pair) (s : State),
    let a := s.hl.toNat
    let b := (s.pair rr).toNat
    (opOf i = .addHl rr → Runs i [BitVec.ofNat 8 (0b00001001 + rr.code * 16)] s
      (((advance 1 s).setHl (BitVec.ofNat 16 (a + b))).withFlags
        { z := s.flags.z, n := false, h := decide (a % 0x1000 + b % 0x1000 > 0x0FFF), c := decide (a + b > 0xFFFF) })) ∧
    (opOf i = .incPair rr → Runs i [BitVec.ofNat 8 (0b00000011 + rr.code * 16)] s
      ((advance 1 s).setPair rr (BitVec.ofNat 16 (b + 1)))) ∧
    (opOf i = .decPair rr → Runs i [BitVec.ofNat 8 (0b00001011 + rr.code * 16)] s
      ((advance 1 s).setPair rr (BitVec.ofNat 16 (b + 0xFFFF))))

/-- ADD SP,e8 and LD HL,SP+e8: the result uses the signed displacement, the flags the unsigned low-byte
addition. -/
def Obligations.SpDisplacementSums : Prop :=
  ∀ (i : Instr) (e8 : Byte) (s : State),
    let res : Word := s.sp + e8.signExtend 16
    let flags : Flags :=
      { z := false, n := false
        h := decide (s.sp.toNat % 16 + e8.toNat % 16 > 0x0F), c := decide (s.sp.toNat % 256 + e8.toNat > 0xFF) }
    (opOf i = .addSpE8 e8 → Runs i [0xE8, e8] s (((advance 2 s).withSp res).withFlags flags)) ∧
    (opOf i = .ldHlSpE8 e8 → Runs i [0xF8, e8] s (((advance 1 s).setHl res).withFlags flags))

/-! ## Rotates, shifts and bits -/

/-- RLCA, RRCA, RLA and RRA: Z, N and H are cleared whatever the result. -/
def Obligations.AccumulatorRotates : Prop :=
  ∀ (i : Instr) (s : State),
    let a := s.regs.a
    let carryIn : Byte := if s.flags.c then 1 else 0
    let out (res : Byte) (c : Bool) : State :=
      (s.setReg .a res).withFlags { z := false, n := false, h := false, c := c }
    (opOf i = .rlca → Runs i [0x07] s (out (a.rotateLeft 1) (a.getLsbD 7))) ∧
    (opOf i = .rrca → Runs i [0x0F] s (out (a.rotateRight 1) (a.getLsbD 0))) ∧
    (opOf i = .rla → Runs i [0x17] s (out ((a <<< 1) ||| carryIn) (a.getLsbD 7))) ∧
    (opOf i = .rra → Runs i [0x1F] s (out ((a >>> 1) ||| (carryIn <<< 7)) (a.getLsbD 0)))

/-- RLC, RRC, RL and RR of a register and of the byte at HL. -/
def Obligations.CbRotates : Prop :=
  ∀ (i : Instr) (x : Loc8) (s : State),
    let v := (operandAt x s).1
    let m := (operandAt x s).2
    let carryIn : Byte := if s.flags.c then 1 else 0
    let out (res : Byte) (c : Bool) : State :=
      (storedAt x res m).withFlags { z := decide (res = 0), n := false, h := false, c := c }
    let words (y : Nat) : List Byte := [0xCB, BitVec.ofNat 8 (y * 8 + x.code)]
    (opOf i = .rot .rlc x → Runs i (words 0) s (out (v.rotateLeft 1) (v.getLsbD 7))) ∧
    (opOf i = .rot .rrc x → Runs i (words 1) s (out (v.rotateRight 1) (v.getLsbD 0))) ∧
    (opOf i = .rot .rl x → Runs i (words 2) s (out ((v <<< 1) ||| carryIn) (v.getLsbD 7))) ∧
    (opOf i = .rot .rr x → Runs i (words 3) s (out ((v >>> 1) ||| (carryIn <<< 7)) (v.getLsbD 0)))

/-- SLA, SRA, SWAP and SRL of a register and of the byte at HL. -/
def Obligations.CbShifts : Prop :=
  ∀ (i : Instr) (x : Loc8) (s : State),
    let v := (operandAt x s).1
    let m := (operandAt x s).2
    let out (res : Byte) (c : Bool) : State :=
      (storedAt x res m).withFlags { z := decide (res = 0), n := false, h := false, c := c }
    let words (y : Nat) : List Byte := [0xCB, BitVec.ofNat 8 (y * 8 + x.code)]
    (opOf i = .rot .sla x → Runs i (words 4) s (out (v <<< 1) (v.getLsbD 7))) ∧
    (opOf i = .rot .sra x → Runs i (words 5) s (out ((v >>> 1) ||| (v &&& 0x80)) (v.getLsbD 0))) ∧
    (opOf i = .rot .swap x → Runs i (words 6) s (out ((v <<< 4) ||| (v >>> 4)) false)) ∧
    (opOf i = .rot .srl x → Runs i (words 7) s (out (v >>> 1) (v.getLsbD 0)))

/-- BIT, RES and SET of a register and of the byte at HL: BIT writes only flags, RES and SET only the operand,
which in memory is written back even when it does not change. -/
def Obligations.BitResSetResults : Prop :=
  ∀ (i : Instr) (b : Fin 8) (x : Loc8) (s : State),
    let v := (operandAt x s).1
    let m := (operandAt x s).2
    let words (cls : Nat) : List Byte := [0xCB, BitVec.ofNat 8 (cls * 64 + b.val * 8 + x.code)]
    (opOf i = .bit b x → Runs i (words 1) s
      (m.withFlags { z := !v.getLsbD b.val, n := false, h := true, c := s.flags.c })) ∧
    (opOf i = .res b x → Runs i (words 2) s (storedAt x (v &&& ~~~((1 : Byte) <<< b.val)) m)) ∧
    (opOf i = .set b x → Runs i (words 3) s (storedAt x (v ||| ((1 : Byte) <<< b.val)) m))

/-! ## Control transfer -/

/-- The conditions, and the jumps: absolute, conditional, to HL, and relative to the address of the next
instruction; a jump not taken only keeps the PC after its bytes. -/
def Obligations.JumpsSetPc : Prop :=
  ∀ (i : Instr) (cc : Cond) (a16 : Word) (e8 : Byte) (s : State),
    (s.cond .nz = !s.flags.z ∧ s.cond .z = s.flags.z ∧ s.cond .nc = !s.flags.c ∧ s.cond .c = s.flags.c) ∧
    (opOf i = .jp a16 →
      Runs i [0xC3, a16.extractLsb' 0 8, a16.extractLsb' 8 8] s ((advance 1 s).withPc a16)) ∧
    (opOf i = .jpCc cc a16 →
      Runs i [BitVec.ofNat 8 (0b11000010 + cc.code * 8), a16.extractLsb' 0 8, a16.extractLsb' 8 8] s
        (if s.cond cc then (advance 1 s).withPc a16 else s)) ∧
    (opOf i = .jpHl → Runs i [0xE9] s (s.withPc s.hl)) ∧
    (opOf i = .jr e8 → Runs i [0x18, e8] s ((advance 1 s).withPc (s.pc + e8.signExtend 16))) ∧
    (opOf i = .jrCc cc e8 →
      Runs i [BitVec.ofNat 8 (0b00100000 + cc.code * 8), e8] s
        (if s.cond cc then (advance 1 s).withPc (s.pc + e8.signExtend 16) else s))

/-- CALL, CALL cc and RST: an internal cycle, the push of the next instruction's address, and the target; a call
not taken has no stack effect. -/
def Obligations.CallsPushAndJump : Prop :=
  ∀ (i : Instr) (cc : Cond) (a16 : Word) (y : Fin 8) (s : State),
    let called (target : Word) : State := (afterPush s.pc (advance 1 s)).withPc target
    (opOf i = .call a16 →
      Runs i [0xCD, a16.extractLsb' 0 8, a16.extractLsb' 8 8] s (called a16)) ∧
    (opOf i = .callCc cc a16 →
      Runs i [BitVec.ofNat 8 (0b11000100 + cc.code * 8), a16.extractLsb' 0 8, a16.extractLsb' 8 8] s
        (if s.cond cc then called a16 else s)) ∧
    (opOf i = .rst y → Runs i [BitVec.ofNat 8 (0b11000111 + y.val * 8)] s (called (BitVec.ofNat 16 (y.val * 8))))

/-- RET, RET cc and RETI: the two pops, an internal cycle after them, and one before the condition of RET cc
whether or not it returns; RETI also sets IME at once and touches nothing else. -/
def Obligations.ReturnsPopPc : Prop :=
  ∀ (i : Instr) (cc : Cond) (s : State),
    let returned (w : State) : State := ((advance 3 w).withSp (w.sp + 2)).withPc (poppedWord w)
    (opOf i = .ret → Runs i [0xC9] s (returned s)) ∧
    (opOf i = .retCc cc → Runs i [BitVec.ofNat 8 (0b11000000 + cc.code * 8)] s
      (if s.cond cc then returned (advance 1 s) else advance 1 s)) ∧
    (opOf i = .reti → Runs i [0xD9] s ((returned s).withIme true))

/-- A return undoes a call: where both stack bytes are storage, after CALL, a taken CALL cc or RST a RET comes
back to the instruction after the call with SP as it was; and after the dispatch of an interrupt a RETI comes
back to the interrupted PC with SP as it was and IME set. -/
def Obligations.ReturnUndoesCall : Prop :=
  ∀ (cc : Cond) (a16 : Word) (y : Fin 8) (k : IntSource) (s : State), s.memWf = true →
    isStorage (s.sp - 1) = true → isStorage (s.sp - 2) = true →
    let comesBack (i : Instr) : Prop :=
      ∃ t u, exec i s = Host.Outcome.next t ∧ exec .ret (afterFetch 1 t) = Host.Outcome.next u ∧
        u.pc = s.pc ∧ u.sp = s.sp
    comesBack (Form.call a16).instr ∧
    (s.cond cc = true → comesBack (Form.callCc cc a16).instr) ∧
    comesBack (Form.rst y).instr ∧
    (∃ u, exec .reti (afterFetch 1 (dispatch k s)) = Host.Outcome.next u ∧
      u.pc = s.pc ∧ u.sp = s.sp ∧ u.ime = true)

/-! ## System instructions and fatal errors -/

/-- NOP, HALT, DI and EI: what each executes, before the interrupt phase of its step. -/
def Obligations.NopHaltDiEiResults : Prop :=
  ∀ (i : Instr) (s : State),
    (opOf i = .nop → Runs i [0x00] s s) ∧
    (opOf i = .halt → Runs i [0x76] s (s.withHalted true)) ∧
    (opOf i = .di → Runs i [0xF3] s (s.withIme false)) ∧
    (opOf i = .ei → Runs i [0xFB] s (s.withImeScheduled true))

/-- STOP and the eleven illegal opcodes stop the core and record the kind, the opcode and the address of the
opcode, which is one before PC; nothing else changes. -/
def Obligations.FatalInstructionsRecordReport : Prop :=
  ∀ (i : Instr) (x : IllegalOp) (s : State),
    (opOf i = .stop → Runs i [0x10] s
      ((s.withStopped true).withFault (some { kind := .executeFailure, opcode := 0x10, pc := s.pc - 1 }))) ∧
    (opOf i = .illegal x → x.byte ∈ illegalBytes ∧ Runs i [x.byte] s
      ((s.withStopped true).withFault (some { kind := .decodeFailure, opcode := x.byte, pc := s.pc - 1 })))

/-- A step that fetches an unmapped opcode: one tick, PC one further, the report with the opcode and its
address, and no interrupt phase; no further byte is read, and step() returns false. -/
def Obligations.IllegalOpcodeStopsTheCore : Prop :=
  ∀ s : State, s.fetches → busRead s.pc (advance 1 s) ∈ illegalBytes →
    let t := ((((advance 1 s).withPc (s.pc + 1)).withStopped true).withFault
      (some { kind := .decodeFailure, opcode := busRead s.pc (advance 1 s), pc := s.pc }))
    step s = Host.Outcome.next t ∧ stepReturns t = false

/-- A step that fetches STOP: the same with ExecuteFailure and 0x10. -/
def Obligations.StopStopsTheCore : Prop :=
  ∀ s : State, s.fetches → busRead s.pc (advance 1 s) = 0x10 →
    let t := ((((advance 1 s).withPc (s.pc + 1)).withStopped true).withFault
      (some { kind := .executeFailure, opcode := 0x10, pc := s.pc }))
    step s = Host.Outcome.next t ∧ stepReturns t = false

/-- Nothing else stops the core: a step that stops it fetched an unmapped opcode or STOP, in a core that was
not halted, and its report is the one for that opcode; ContractViolation never happens. -/
def Obligations.OnlyUnmappedOrStopOpcodesStop : Prop :=
  ∀ s t : State, s.stopped = false → step s = Host.Outcome.next t → t.stopped = true →
    s.halted = false ∧ ∃ k,
      t.fault = some { kind := k, opcode := busRead s.pc (advance 1 s), pc := s.pc } ∧
      ((k = .decodeFailure ∧ busRead s.pc (advance 1 s) ∈ illegalBytes) ∨
        (k = .executeFailure ∧ busRead s.pc (advance 1 s) = 0x10))

/-! ## The step and interrupts -/

/-- step() always completes, as every instruction does; a stopped core does not change; and step() returns
false exactly when the core is stopped after it. -/
def Obligations.StepIsTotal : Prop :=
  (∀ s : State, ∃ t, step s = Host.Outcome.next t ∧ (s.stopped = true → t = s) ∧
    (stepReturns t = false ↔ t.stopped = true)) ∧
  (∀ (i : Instr) (s : State), ∃ t, exec i s = Host.Outcome.next t)

/-- The three ways of a step: a stopped core is left alone; a halted core spends one machine cycle and runs the
interrupt phase; otherwise the bytes at PC decode to an instruction, its bytes are fetched, it is executed, and
the interrupt phase follows unless a fatal error stopped the core. -/
def Obligations.StepRunsDecodedInstruction : Prop :=
  ∀ s : State,
    (s.stopped = true → step s = Host.Outcome.next s) ∧
    (s.stopped = false → s.halted = true → step s = Host.Outcome.next (interruptPhase (advance 1 s))) ∧
    (s.fetches → ∃ i rest t, decode (bytesAtPc s) = .ok (i, rest) ∧
      exec i (afterFetch (encode i).length s) = Host.Outcome.next t ∧
      step s = Host.Outcome.next (if t.stopped then t else interruptPhase t))

/-- The interrupt phase: with IME, the lowest source whose IE and IF bits are both set is dispatched, and the EI
latch is cleared; without IME, any such source wakes a halted core, and the latch is promoted to IME. Bits 5 to
7 play no part. -/
def Obligations.InterruptPhaseRule : Prop :=
  ∀ (s : State) (i : IntSource),
    let both (k : Nat) : Bool := s.ie.getLsbD k && s.intFlags.getLsbD k
    let number : Nat := match i with
      | .vblank => 0
      | .lcdStat => 1
      | .timer => 2
      | .serial => 3
      | .joypad => 4
    let woken : State := if s.halted = true ∧ [0, 1, 2, 3, 4].any both = true then s.withHalted false else s
    (s.ime = true → both number = true → (∀ k, k < number → both k = false) →
      interruptPhase s = (dispatch i s).withImeScheduled false) ∧
    (s.ime = true → (∀ k, k < 5 → both k = false) → interruptPhase s = s.withImeScheduled false) ∧
    (s.ime = false → s.imeScheduled = true → interruptPhase s = (woken.withIme true).withImeScheduled false) ∧
    (s.ime = false → s.imeScheduled = false → interruptPhase s = woken)

/-- Dispatch of a source: two internal cycles, the push of PC, one internal cycle; then PC is the source's fixed
vector, only its own IF bit is cleared, IME and halted are 0. -/
def Obligations.DispatchRule : Prop :=
  ∀ s : State,
    let q := advance 1 (afterPush s.pc (advance 2 s))
    let taken (vector : Word) (mask : Byte) : State :=
      (((q.withPc vector).withIntFlags (q.intFlags &&& ~~~mask)).withIme false).withHalted false
    dispatch .vblank s = taken 0x0040 0b00000001 ∧
    dispatch .lcdStat s = taken 0x0048 0b00000010 ∧
    dispatch .timer s = taken 0x0050 0b00000100 ∧
    dispatch .serial s = taken 0x0058 0b00001000 ∧
    dispatch .joypad s = taken 0x0060 0b00010000

/-- The step of HALT: with nothing pending the core is left halted with PC after HALT; with a source pending and
IME clear it is awake again at once; with IME set the source is dispatched at once, pushing the address after
HALT. -/
def Obligations.HaltStep : Prop :=
  ∀ s : State, s.fetches → s.imeScheduled = false → busRead s.pc (advance 1 s) = 0x76 →
    let t := (advance 1 s).withPc (s.pc + 1)
    let both (k : Nat) : Bool := t.ie.getLsbD k && t.intFlags.getLsbD k
    ((∀ k, k < 5 → both k = false) → step s = Host.Outcome.next (t.withHalted true)) ∧
    (s.ime = false → (∃ k, k < 5 ∧ both k = true) → step s = Host.Outcome.next (t.withHalted false)) ∧
    (∀ i, s.ime = true → both (sourceBit i) = true → (∀ k, k < sourceBit i → both k = false) →
      step s = Host.Outcome.next (dispatch i (t.withHalted true)))

/-- A halted step fetches nothing, spends one machine cycle and runs the interrupt phase: with nothing pending
after that cycle only the timer and IF can have changed, and PC stays. -/
def Obligations.HaltedStepTicksOnce : Prop :=
  ∀ s : State, s.stopped = false → s.halted = true → s.imeScheduled = false →
    let t := advance 1 s
    let both (k : Nat) : Bool := t.ie.getLsbD k && t.intFlags.getLsbD k
    step s = Host.Outcome.next (interruptPhase t) ∧
    ((∀ k, k < 5 → both k = false) →
      step s = Host.Outcome.next t ∧ t.pc = s.pc ∧ t.halted = true ∧ t.timer.div = s.timer.div + 1) ∧
    (s.ime = false → (∃ k, k < 5 ∧ both k = true) → step s = Host.Outcome.next (t.withHalted false))

/-- EI's delay: the step of EI dispatches nothing and leaves IME set with PC at the next instruction; the next
step executes that instruction whole before its own interrupt phase; and where that next instruction is DI, no
interrupt is taken and IME is clear again. -/
def Obligations.EiTakesEffectAfterNextInstruction : Prop :=
  ∀ s : State, s.fetches → s.ime = false → busRead s.pc (advance 1 s) = 0xFB →
    let t := (((advance 1 s).withPc (s.pc + 1)).withIme true).withImeScheduled false
    step s = Host.Outcome.next t ∧
    (∃ i rest u, decode (bytesAtPc t) = .ok (i, rest) ∧
      exec i (afterFetch (encode i).length t) = Host.Outcome.next u ∧
      step t = Host.Outcome.next (if u.stopped then u else interruptPhase u)) ∧
    (busRead t.pc (advance 1 t) = 0xF3 →
      step t = Host.Outcome.next (((advance 1 t).withPc (t.pc + 1)).withIme false))

/-! ## The timer -/

/-- One tick: DIV up by 1 modulo 2^16, and TIMA incremented on a falling edge of the selected bit while enabled,
nothing else; and with the timer enabled, 2^(sel+1) ticks increment TIMA exactly once. -/
def Obligations.TimerTickRule : Prop :=
  ∀ (s : State) (sel : Nat),
    let counted (k : Nat) : State := s.withTimer { s.timer with div := s.timer.div + BitVec.ofNat 16 k }
    [9, 3, 5, 7][(s.timer.tac.extractLsb' 0 2).toNat]? = some sel →
    advance 1 s = timerTick s ∧
    timerTick s =
      (if s.timer.tac.getLsbD 2 = true ∧ s.timer.div.getLsbD sel = true ∧ (s.timer.div + 1).getLsbD sel = false
        then timaIncrement (counted 1) else counted 1) ∧
    (s.timer.tac.getLsbD 2 = true → advance (2 ^ (sel + 1)) s = timaIncrement (counted (2 ^ (sel + 1)))) ∧
    (s.timer.tac.getLsbD 2 = false → ∀ n, advance n s = counted n)

/-- TIMA's increment: past 0xFF it is reloaded from TMA and IF bit 2 is set, else it counts; and a request sets
just its own IF bit, so a second one changes nothing. -/
def Obligations.TimaIncrementRule : Prop :=
  ∀ (s : State) (i : IntSource),
    (s.timer.tima = 0xFF →
      timaIncrement s = (s.withTimer { s.timer with tima := s.timer.tma }).withIntFlags (s.intFlags ||| 0b00000100)) ∧
    (s.timer.tima ≠ 0xFF → timaIncrement s = s.withTimer { s.timer with tima := s.timer.tima + 1 }) ∧
    (requestInterrupt .vblank s = s.withIntFlags (s.intFlags ||| 0b00000001) ∧
      requestInterrupt .lcdStat s = s.withIntFlags (s.intFlags ||| 0b00000010) ∧
      requestInterrupt .timer s = s.withIntFlags (s.intFlags ||| 0b00000100) ∧
      requestInterrupt .serial s = s.withIntFlags (s.intFlags ||| 0b00001000) ∧
      requestInterrupt .joypad s = s.withIntFlags (s.intFlags ||| 0b00010000)) ∧
    requestInterrupt i (requestInterrupt i s) = requestInterrupt i s

/-! ## Memory -/

/-- The memory map outside the I/O window: what a read returns and what a write stores, for every address. -/
def Obligations.MemoryMapRule : Prop :=
  ∀ (addr : Word) (v : Byte) (s : State),
    let a := addr.toNat
    (a < 0x8000 ∨ 0xA000 ≤ a ∧ a < 0xC000 →
      busRead addr s = Memory.read s.backing a ∧
      busWrite addr v s = s.withBacking (Memory.write s.backing a v)) ∧
    (0x8000 ≤ a ∧ a < 0xA000 ∨ 0xFE00 ≤ a ∧ a < 0xFF00 →
      busRead addr s = Config.fillerByte ∧ busWrite addr v s = s) ∧
    (0xC000 ≤ a ∧ a < 0xE000 →
      busRead addr s = Memory.read s.wram (a - 0xC000) ∧
      busWrite addr v s = s.withWram (Memory.write s.wram (a - 0xC000) v)) ∧
    (0xE000 ≤ a ∧ a < 0xFE00 →
      busRead addr s = Memory.read s.wram (a - 0xE000) ∧
      busWrite addr v s = s.withWram (Memory.write s.wram (a - 0xE000) v)) ∧
    (0xFF80 ≤ a ∧ a < 0xFFFF →
      busRead addr s = Memory.read s.hram (a - 0xFF80) ∧
      busWrite addr v s = s.withHram (Memory.write s.hram (a - 0xFF80) v)) ∧
    (a = 0xFFFF → busRead addr s = s.ie ∧ busWrite addr v s = s.withIe v)

/-- The I/O window: each register's read and write, the DIV write with its edge check, and the unimplemented
addresses, which read 0 and discard writes. -/
def Obligations.IoWindowRule : Prop :=
  ∀ (addr : Word) (v : Byte) (s : State),
    (busRead 0xFF01 s = s.sb ∧ busWrite 0xFF01 v s = s.withSb v) ∧
    (busRead 0xFF02 s = s.sc ∧ busWrite 0xFF02 v s = s.withSc v) ∧
    (busRead 0xFF04 s = s.timer.div.extractLsb' 8 8 ∧
      busWrite 0xFF04 v s =
        (if s.timer.tac.getLsbD 2 = true ∧ s.timer.div.getLsbD (selectedBit s.timer.tac) = true
          then timaIncrement (s.withTimer { s.timer with div := 0 })
          else s.withTimer { s.timer with div := 0 })) ∧
    (busRead 0xFF05 s = s.timer.tima ∧ busWrite 0xFF05 v s = s.withTimer { s.timer with tima := v }) ∧
    (busRead 0xFF06 s = s.timer.tma ∧ busWrite 0xFF06 v s = s.withTimer { s.timer with tma := v }) ∧
    (busRead 0xFF07 s = s.timer.tac.setWidth 8 ∧
      busWrite 0xFF07 v s = s.withTimer { s.timer with tac := v.extractLsb' 0 3 }) ∧
    (busRead 0xFF0F s = s.intFlags ∧ busWrite 0xFF0F v s = s.withIntFlags v) ∧
    (0xFF00 ≤ addr.toNat → addr.toNat < 0xFF80 →
      addr ∉ ([0xFF01, 0xFF02, 0xFF04, 0xFF05, 0xFF06, 0xFF07, 0xFF0F] : List Word) →
      busRead addr s = 0x00 ∧ busWrite addr v s = s)

/-- The access primitives: each 8-bit access is one tick and then the bus, an internal cycle is a tick, a 16-bit
access is two of them with the low byte first at the lower address, modulo 2^16, and a fetch reads at PC and
moves PC by 1. -/
def Obligations.AccessPrimitives : Prop :=
  ∀ (addr v : Word) (b : Byte) (s : State),
    tick s = timerTick s ∧ internal s = timerTick s ∧
    memRead addr s = (busRead addr (timerTick s), timerTick s) ∧
    memWrite addr b s = busWrite addr b (timerTick s) ∧
    memRead16 addr s =
      (busRead (addr + 1) (timerTick (timerTick s)) ++ busRead addr (timerTick s), timerTick (timerTick s)) ∧
    memWrite16 addr v s =
      busWrite (addr + 1) (v.extractLsb' 8 8) (timerTick (busWrite addr (v.extractLsb' 0 8) (timerTick s))) ∧
    fetchByte s = (busRead s.pc (timerTick s), (timerTick s).withPc (s.pc + 1))

/-- The stack protocol: a push writes the high byte at SP-1 and the low byte at SP-2 and leaves SP-2, a pop reads
the low byte at SP and the high byte at SP+1 and leaves SP+2; and where both stack bytes are storage, a pop
right after a push gives back the word and SP. -/
def Obligations.StackProtocol : Prop :=
  ∀ (v : Word) (s : State),
    push16 v s =
      (busWrite (s.sp - 2) (v.extractLsb' 0 8)
        (timerTick (busWrite (s.sp - 1) (v.extractLsb' 8 8) (timerTick s)))).withSp (s.sp - 2) ∧
    pop16 s =
      (busRead (s.sp + 1) (timerTick (timerTick s)) ++ busRead s.sp (timerTick s),
        (timerTick (timerTick s)).withSp (s.sp + 2)) ∧
    (s.memWf = true → isStorage (s.sp - 1) = true → isStorage (s.sp - 2) = true →
      (pop16 (push16 v s)).1 = v ∧ (pop16 (push16 v s)).2.sp = s.sp)

/-- A read returns the most recent write: in storage, which is the backing ranges, working RAM with its echo, and
high RAM, a write cycle anywhere is seen by a later read cycle at every address of the same place, and leaves
every other place alone. -/
def Obligations.ReadReturnsLastWrite : Prop :=
  ∀ (a b : Word) (v : Byte) (s : State), s.memWf = true →
    (isStorage b = true ↔ (b.toNat < 0x8000 ∨ 0xA000 ≤ b.toNat ∧ b.toNat < 0xFE00 ∨ 0xFF80 ≤ b.toNat ∧ b.toNat < 0xFFFF)) ∧
    (isStorage b = true →
      (samePlace b a ↔ b = a ∨ (0xC000 ≤ a.toNat ∧ a.toNat < 0xDE00 ∧ b = a + 0x2000) ∨
        (0xE000 ≤ a.toNat ∧ a.toNat < 0xFE00 ∧ b = a - 0x2000))) ∧
    (isStorage b = true → samePlace b a → (memRead b (memWrite a v s)).1 = v) ∧
    (isStorage b = true → ¬ samePlace b a → (memRead b (memWrite a v s)).1 = (memRead b s).1)

/-! ## What an instruction leaves unchanged -/

/-- Registers: an instruction changes no 8-bit register besides F but its destination and, where its addressing
mode steps HL, H and L. -/
def Obligations.RegisterFrame : Prop :=
  ∀ (i : Instr) (s t : State) (r : Reg8), exec i s = Host.Outcome.next t →
    r ∉ writesRegs (opOf i) → t.reg r = s.reg r

/-- Flags: each flag has the outcome the instruction's rule gives it, and CCF is the only toggle. -/
def Obligations.FlagOutcomes : Prop :=
  ∀ (i : Instr) (s t : State), exec i s = Host.Outcome.next t →
    (flagRules (opOf i)).z.obeyed s.flags.z t.flags.z ∧
    (flagRules (opOf i)).n.obeyed s.flags.n t.flags.n ∧
    (flagRules (opOf i)).h.obeyed s.flags.h t.flags.h ∧
    (flagRules (opOf i)).c.obeyed s.flags.c t.flags.c ∧
    (opOf i = .ccf → t.flags.c = !s.flags.c)

/-- SP, PC and the control bits: each changes only in the instructions whose rule writes it; IME only in DI and
RETI, the EI latch only in EI, halted only in HALT, the run state only in STOP and the illegal opcodes. -/
def Obligations.ControlFrame : Prop :=
  ∀ (i : Instr) (s t : State), exec i s = Host.Outcome.next t →
    (writesSp (opOf i) = false → t.sp = s.sp) ∧
    (writesPc (opOf i) = false → t.pc = s.pc) ∧
    (opOf i ≠ .di → opOf i ≠ .reti → t.ime = s.ime) ∧
    (opOf i ≠ .ei → t.imeScheduled = s.imeScheduled) ∧
    (opOf i ≠ .halt → t.halted = s.halted) ∧
    (opOf i ≠ .stop → (∀ x, opOf i ≠ .illegal x) → t.stopped = s.stopped ∧ t.fault = s.fault)

/-- Memory: every address that resolves to another place than the addresses the instruction stores to reads as
before, and so does every filler and unimplemented address; DIV, TIMA and IF, which tick by themselves, are
the subject of TimerFrame. -/
def Obligations.MemoryFrame : Prop :=
  ∀ (i : Instr) (s t : State) (b : Word), exec i s = Host.Outcome.next t →
    b ≠ 0xFF04 → b ≠ 0xFF05 → b ≠ 0xFF0F →
    ((∀ a, a ∈ storeAddrs (opOf i) s → ¬ samePlace b a) ∨
      regionOf b = .filler ∨ regionOf b = .io .unimplemented) →
    busRead b t = busRead b s

/-- The timer and IF: an instruction that stores to none of DIV, TIMA, TMA, TAC and IF leaves them as the ticks
of its machine cycles make them, one tick a cycle, with the cycle counts of R358 and R224; and no instruction
has fewer cycles than bytes. -/
def Obligations.TimerFrame : Prop :=
  ∀ (i : Instr) (s t : State), exec i s = Host.Outcome.next t →
    (encode i).length ≤ cyclesOf (opOf i) s ∧
    ((∀ a, a ∈ storeAddrs (opOf i) s → a ∉ ([0xFF04, 0xFF05, 0xFF06, 0xFF07, 0xFF0F] : List Word)) →
      t.timer = (advance (cyclesAfterFetch i s) s).timer ∧
      t.intFlags = (advance (cyclesAfterFetch i s) s).intFlags)

/-! ## Reset and the invariant -/

/-- Construction: every field as R350 lists it, with F and TAC masked, the latch and the run state fixed. -/
def Obligations.ConstructionRule : Prop :=
  ∀ (backing wram hram : Memory) (init : InitState),
    let s := State.construct backing init wram hram
    (s.backing = backing ∧ s.wram = wram ∧ s.hram = hram) ∧
    (s.regs = { a := init.a, b := init.b, c := init.c, d := init.d, e := init.e, h := init.h, l := init.l } ∧
      s.f = init.f &&& 0xF0 ∧ s.sp = init.sp ∧ s.pc = init.pc) ∧
    (s.ime = init.ime ∧ s.halted = init.halted ∧ s.ie = init.ie ∧ s.intFlags = init.intFlags) ∧
    (s.timer.div = init.div ∧ s.timer.tima = init.tima ∧ s.timer.tma = init.tma ∧
      s.timer.tac.setWidth 8 = init.tac &&& 0b111 ∧ s.sb = init.sb ∧ s.sc = init.sc) ∧
    (s.imeScheduled = false ∧ s.stopped = false ∧ s.fault = none)

/-- The invariant holds at reset. The reset values are the model's choice (log entries 2 and 3). -/
def Obligations.ResetHasInvariant : Prop := State.reset.Inv

/-- The invariant is kept by every step, from every state that has it: the memory stays canonical, the EI latch
is clear at every step boundary, and the report stands exactly when the core is stopped and is one the rules
allow. -/
def Obligations.StepKeepsInvariant : Prop :=
  ∀ s t : State, s.Inv → step s = Host.Outcome.next t → t.Inv
end

