-- ==== Sys2Proof/Laws/Memory.lean ====
section
/-! SUPPORT. The laws of the byte arrays: read after write, every other index left alone, and the canonical
form kept, so that equal arrays are equal lists. -/

namespace Sys2Proof.Machine

/-- The canonical form, one cell at a time. -/
theorem Memory.wfFrom_cons {size lo a : Nat} {v : Byte} {rest : Memory} :
    Memory.wfFrom size lo ((a, v) :: rest) = true ↔
      lo ≤ a ∧ a < size ∧ v ≠ Memory.unlisted ∧ Memory.wfFrom size (a + 1) rest = true := by
  simp [Memory.wfFrom, and_assoc]

/-- A later start is a stronger claim. -/
theorem Memory.wfFrom_mono {size lo lo' : Nat} {m : Memory} (hle : lo ≤ lo')
    (h : Memory.wfFrom size lo' m = true) : Memory.wfFrom size lo m = true := by
  cases m with
  | nil => rfl
  | cons cell rest =>
    obtain ⟨a, v⟩ := cell
    rw [Memory.wfFrom_cons] at h ⊢
    exact ⟨Nat.le_trans hle h.1, h.2⟩

/-- Below its first possible index a canonical array reads as unlisted. -/
theorem Memory.read_below {size lo k : Nat} {m : Memory} (h : Memory.wfFrom size lo m = true) (hk : k < lo) :
    Memory.read m k = Memory.unlisted := by
  induction m generalizing lo with
  | nil => rfl
  | cons cell rest ih =>
    obtain ⟨a, v⟩ := cell
    obtain ⟨hlo, -, -, hrest⟩ := Memory.wfFrom_cons.mp h
    have hne : ¬ a = k := by omega
    simpa [Memory.read, hne] using ih hrest (by omega)

theorem Memory.read_consCell_ne {k j : Nat} {v : Byte} {rest : Memory} (h : j ≠ k) :
    Memory.read (Memory.consCell k v rest) j = Memory.read rest j := by
  unfold Memory.consCell
  split
  · rfl
  · simp [Memory.read, h.symm]

theorem Memory.consCell_wfFrom {size lo k : Nat} {v : Byte} {rest : Memory} (hlo : lo ≤ k) (hk : k < size)
    (h : Memory.wfFrom size (k + 1) rest = true) : Memory.wfFrom size lo (Memory.consCell k v rest) = true := by
  unfold Memory.consCell
  split
  · exact Memory.wfFrom_mono (by omega) h
  · rename_i hv
    exact Memory.wfFrom_cons.mpr ⟨hlo, hk, hv, h⟩

/-- A store leaves every other index alone. -/
theorem Memory.read_write_ne {m : Memory} {k j : Nat} {v : Byte} (h : j ≠ k) :
    Memory.read (Memory.write m k v) j = Memory.read m j := by
  induction m with
  | nil => simpa [Memory.write] using Memory.read_consCell_ne (rest := []) h
  | cons cell rest ih =>
    obtain ⟨a, x⟩ := cell
    simp only [Memory.write]
    split
    · exact Memory.read_consCell_ne h
    · split
      · rename_i hka
        rw [Memory.read_consCell_ne h]
        simp [Memory.read, ← hka, h.symm]
      · simp only [Memory.read, ih]

/-- A load after a store to the same index gives the value stored. -/
theorem Memory.read_write_same {m : Memory} {size lo k : Nat} {v : Byte} (h : Memory.wfFrom size lo m = true) :
    Memory.read (Memory.write m k v) k = v := by
  have hcell : ∀ (rest : Memory) (lo' : Nat), k < lo' → Memory.wfFrom size lo' rest = true →
      Memory.read (Memory.consCell k v rest) k = v := by
    intro rest lo' hlt hw
    unfold Memory.consCell
    split
    · rename_i hv
      rw [Memory.read_below hw hlt, hv]
    · simp [Memory.read]
  induction m generalizing lo with
  | nil => exact hcell [] (k + 1) (by omega) rfl
  | cons cell rest ih =>
    obtain ⟨a, x⟩ := cell
    obtain ⟨hlo, ha, hx, hrest⟩ := Memory.wfFrom_cons.mp h
    simp only [Memory.write]
    split
    · rename_i hka
      exact hcell _ a hka (Memory.wfFrom_cons.mpr ⟨Nat.le_refl a, ha, hx, hrest⟩)
    · split
      · rename_i hka
        exact hcell rest (a + 1) (by omega) hrest
      · rename_i hka
        simpa [Memory.read, show ¬ a = k by omega] using ih hrest

/-- A store keeps the canonical form. -/
theorem Memory.write_wfFrom {m : Memory} {size lo k : Nat} {v : Byte} (h : Memory.wfFrom size lo m = true)
    (hlo : lo ≤ k) (hk : k < size) : Memory.wfFrom size lo (Memory.write m k v) = true := by
  induction m generalizing lo with
  | nil => exact Memory.consCell_wfFrom hlo hk rfl
  | cons cell rest ih =>
    obtain ⟨a, x⟩ := cell
    obtain ⟨hloa, ha, hx, hrest⟩ := Memory.wfFrom_cons.mp h
    simp only [Memory.write]
    split
    · rename_i hka
      exact Memory.consCell_wfFrom hlo hk (Memory.wfFrom_cons.mpr ⟨by omega, ha, hx, hrest⟩)
    · split
      · rename_i hka
        exact Memory.consCell_wfFrom hlo hk (Memory.wfFrom_mono (by omega) hrest)
      · exact Memory.wfFrom_cons.mpr ⟨hloa, ha, hx, ih hrest (by omega)⟩

/-- A store keeps the canonical form of an array of `size` bytes. -/
theorem Memory.write_wf {m : Memory} {size k : Nat} {v : Byte} (h : Memory.wf size m = true) (hk : k < size) :
    Memory.wf size (Memory.write m k v) = true := Memory.write_wfFrom h (Nat.zero_le k) hk

/-- Two canonical arrays that read alike at every index are the same list. -/
theorem Memory.eq_of_read_eq {m m' : Memory} {size lo : Nat} (h : Memory.wfFrom size lo m = true)
    (h' : Memory.wfFrom size lo m' = true) (heq : ∀ k, Memory.read m k = Memory.read m' k) : m = m' := by
  induction m generalizing lo m' with
  | nil =>
    cases m' with
    | nil => rfl
    | cons cell rest =>
      obtain ⟨a, v⟩ := cell
      obtain ⟨-, -, hv, -⟩ := Memory.wfFrom_cons.mp h'
      have := heq a
      simp [Memory.read] at this
      exact absurd this.symm hv
  | cons cell rest ih =>
    obtain ⟨a, v⟩ := cell
    obtain ⟨hlo, ha, hv, hrest⟩ := Memory.wfFrom_cons.mp h
    cases m' with
    | nil =>
      have := heq a
      simp [Memory.read] at this
      exact absurd this hv
    | cons cell' rest' =>
      obtain ⟨a', v'⟩ := cell'
      obtain ⟨hlo', ha', hv', hrest'⟩ := Memory.wfFrom_cons.mp h'
      have haa : a = a' := by
        rcases Nat.lt_trichotomy a a' with hlt | heq' | hgt
        · have := heq a
          rw [Memory.read_below (Memory.wfFrom_cons.mpr ⟨Nat.le_refl a', ha', hv', hrest'⟩) hlt] at this
          simp [Memory.read] at this
          exact absurd this hv
        · exact heq'
        · have := heq a'
          rw [Memory.read_below (Memory.wfFrom_cons.mpr ⟨Nat.le_refl a, ha, hv, hrest⟩) hgt] at this
          simp [Memory.read] at this
          exact absurd this.symm hv'
      subst haa
      have hvv : v = v' := by simpa [Memory.read] using heq a
      subst hvv
      congr 1
      refine ih hrest hrest' (fun k => ?_)
      by_cases hk : a = k
      · subst hk
        rw [Memory.read_below hrest (Nat.lt_succ_self a), Memory.read_below hrest' (Nat.lt_succ_self a)]
      · simpa [Memory.read, hk] using heq k

end Sys2Proof.Machine
end

