-- ==== Sys2Proof/Laws/State.lean ====
section
/-! SUPPORT. One lemma per field per update of State, true by unfolding, so that no proof unfolds a record update. -/

namespace Sys2Proof.Machine

variable (s : State)

@[simp] theorem State.withRegs_regs (v : Regs) : (s.withRegs v).regs = v := rfl
@[simp] theorem State.withRegs_flags (v : Regs) : (s.withRegs v).flags = s.flags := rfl
@[simp] theorem State.withRegs_sp (v : Regs) : (s.withRegs v).sp = s.sp := rfl
@[simp] theorem State.withRegs_pc (v : Regs) : (s.withRegs v).pc = s.pc := rfl
@[simp] theorem State.withRegs_ime (v : Regs) : (s.withRegs v).ime = s.ime := rfl
@[simp] theorem State.withRegs_imeScheduled (v : Regs) : (s.withRegs v).imeScheduled = s.imeScheduled := rfl
@[simp] theorem State.withRegs_halted (v : Regs) : (s.withRegs v).halted = s.halted := rfl
@[simp] theorem State.withRegs_stopped (v : Regs) : (s.withRegs v).stopped = s.stopped := rfl
@[simp] theorem State.withRegs_fault (v : Regs) : (s.withRegs v).fault = s.fault := rfl
@[simp] theorem State.withRegs_ie (v : Regs) : (s.withRegs v).ie = s.ie := rfl
@[simp] theorem State.withRegs_intFlags (v : Regs) : (s.withRegs v).intFlags = s.intFlags := rfl
@[simp] theorem State.withRegs_timer (v : Regs) : (s.withRegs v).timer = s.timer := rfl
@[simp] theorem State.withRegs_sb (v : Regs) : (s.withRegs v).sb = s.sb := rfl
@[simp] theorem State.withRegs_sc (v : Regs) : (s.withRegs v).sc = s.sc := rfl
@[simp] theorem State.withRegs_wram (v : Regs) : (s.withRegs v).wram = s.wram := rfl
@[simp] theorem State.withRegs_hram (v : Regs) : (s.withRegs v).hram = s.hram := rfl
@[simp] theorem State.withRegs_backing (v : Regs) : (s.withRegs v).backing = s.backing := rfl

@[simp] theorem State.withFlags_regs (v : Flags) : (s.withFlags v).regs = s.regs := rfl
@[simp] theorem State.withFlags_flags (v : Flags) : (s.withFlags v).flags = v := rfl
@[simp] theorem State.withFlags_sp (v : Flags) : (s.withFlags v).sp = s.sp := rfl
@[simp] theorem State.withFlags_pc (v : Flags) : (s.withFlags v).pc = s.pc := rfl
@[simp] theorem State.withFlags_ime (v : Flags) : (s.withFlags v).ime = s.ime := rfl
@[simp] theorem State.withFlags_imeScheduled (v : Flags) : (s.withFlags v).imeScheduled = s.imeScheduled := rfl
@[simp] theorem State.withFlags_halted (v : Flags) : (s.withFlags v).halted = s.halted := rfl
@[simp] theorem State.withFlags_stopped (v : Flags) : (s.withFlags v).stopped = s.stopped := rfl
@[simp] theorem State.withFlags_fault (v : Flags) : (s.withFlags v).fault = s.fault := rfl
@[simp] theorem State.withFlags_ie (v : Flags) : (s.withFlags v).ie = s.ie := rfl
@[simp] theorem State.withFlags_intFlags (v : Flags) : (s.withFlags v).intFlags = s.intFlags := rfl
@[simp] theorem State.withFlags_timer (v : Flags) : (s.withFlags v).timer = s.timer := rfl
@[simp] theorem State.withFlags_sb (v : Flags) : (s.withFlags v).sb = s.sb := rfl
@[simp] theorem State.withFlags_sc (v : Flags) : (s.withFlags v).sc = s.sc := rfl
@[simp] theorem State.withFlags_wram (v : Flags) : (s.withFlags v).wram = s.wram := rfl
@[simp] theorem State.withFlags_hram (v : Flags) : (s.withFlags v).hram = s.hram := rfl
@[simp] theorem State.withFlags_backing (v : Flags) : (s.withFlags v).backing = s.backing := rfl

@[simp] theorem State.withSp_regs (v : Word) : (s.withSp v).regs = s.regs := rfl
@[simp] theorem State.withSp_flags (v : Word) : (s.withSp v).flags = s.flags := rfl
@[simp] theorem State.withSp_sp (v : Word) : (s.withSp v).sp = v := rfl
@[simp] theorem State.withSp_pc (v : Word) : (s.withSp v).pc = s.pc := rfl
@[simp] theorem State.withSp_ime (v : Word) : (s.withSp v).ime = s.ime := rfl
@[simp] theorem State.withSp_imeScheduled (v : Word) : (s.withSp v).imeScheduled = s.imeScheduled := rfl
@[simp] theorem State.withSp_halted (v : Word) : (s.withSp v).halted = s.halted := rfl
@[simp] theorem State.withSp_stopped (v : Word) : (s.withSp v).stopped = s.stopped := rfl
@[simp] theorem State.withSp_fault (v : Word) : (s.withSp v).fault = s.fault := rfl
@[simp] theorem State.withSp_ie (v : Word) : (s.withSp v).ie = s.ie := rfl
@[simp] theorem State.withSp_intFlags (v : Word) : (s.withSp v).intFlags = s.intFlags := rfl
@[simp] theorem State.withSp_timer (v : Word) : (s.withSp v).timer = s.timer := rfl
@[simp] theorem State.withSp_sb (v : Word) : (s.withSp v).sb = s.sb := rfl
@[simp] theorem State.withSp_sc (v : Word) : (s.withSp v).sc = s.sc := rfl
@[simp] theorem State.withSp_wram (v : Word) : (s.withSp v).wram = s.wram := rfl
@[simp] theorem State.withSp_hram (v : Word) : (s.withSp v).hram = s.hram := rfl
@[simp] theorem State.withSp_backing (v : Word) : (s.withSp v).backing = s.backing := rfl

@[simp] theorem State.withPc_regs (v : Word) : (s.withPc v).regs = s.regs := rfl
@[simp] theorem State.withPc_flags (v : Word) : (s.withPc v).flags = s.flags := rfl
@[simp] theorem State.withPc_sp (v : Word) : (s.withPc v).sp = s.sp := rfl
@[simp] theorem State.withPc_pc (v : Word) : (s.withPc v).pc = v := rfl
@[simp] theorem State.withPc_ime (v : Word) : (s.withPc v).ime = s.ime := rfl
@[simp] theorem State.withPc_imeScheduled (v : Word) : (s.withPc v).imeScheduled = s.imeScheduled := rfl
@[simp] theorem State.withPc_halted (v : Word) : (s.withPc v).halted = s.halted := rfl
@[simp] theorem State.withPc_stopped (v : Word) : (s.withPc v).stopped = s.stopped := rfl
@[simp] theorem State.withPc_fault (v : Word) : (s.withPc v).fault = s.fault := rfl
@[simp] theorem State.withPc_ie (v : Word) : (s.withPc v).ie = s.ie := rfl
@[simp] theorem State.withPc_intFlags (v : Word) : (s.withPc v).intFlags = s.intFlags := rfl
@[simp] theorem State.withPc_timer (v : Word) : (s.withPc v).timer = s.timer := rfl
@[simp] theorem State.withPc_sb (v : Word) : (s.withPc v).sb = s.sb := rfl
@[simp] theorem State.withPc_sc (v : Word) : (s.withPc v).sc = s.sc := rfl
@[simp] theorem State.withPc_wram (v : Word) : (s.withPc v).wram = s.wram := rfl
@[simp] theorem State.withPc_hram (v : Word) : (s.withPc v).hram = s.hram := rfl
@[simp] theorem State.withPc_backing (v : Word) : (s.withPc v).backing = s.backing := rfl

@[simp] theorem State.withIme_regs (v : Bool) : (s.withIme v).regs = s.regs := rfl
@[simp] theorem State.withIme_flags (v : Bool) : (s.withIme v).flags = s.flags := rfl
@[simp] theorem State.withIme_sp (v : Bool) : (s.withIme v).sp = s.sp := rfl
@[simp] theorem State.withIme_pc (v : Bool) : (s.withIme v).pc = s.pc := rfl
@[simp] theorem State.withIme_ime (v : Bool) : (s.withIme v).ime = v := rfl
@[simp] theorem State.withIme_imeScheduled (v : Bool) : (s.withIme v).imeScheduled = s.imeScheduled := rfl
@[simp] theorem State.withIme_halted (v : Bool) : (s.withIme v).halted = s.halted := rfl
@[simp] theorem State.withIme_stopped (v : Bool) : (s.withIme v).stopped = s.stopped := rfl
@[simp] theorem State.withIme_fault (v : Bool) : (s.withIme v).fault = s.fault := rfl
@[simp] theorem State.withIme_ie (v : Bool) : (s.withIme v).ie = s.ie := rfl
@[simp] theorem State.withIme_intFlags (v : Bool) : (s.withIme v).intFlags = s.intFlags := rfl
@[simp] theorem State.withIme_timer (v : Bool) : (s.withIme v).timer = s.timer := rfl
@[simp] theorem State.withIme_sb (v : Bool) : (s.withIme v).sb = s.sb := rfl
@[simp] theorem State.withIme_sc (v : Bool) : (s.withIme v).sc = s.sc := rfl
@[simp] theorem State.withIme_wram (v : Bool) : (s.withIme v).wram = s.wram := rfl
@[simp] theorem State.withIme_hram (v : Bool) : (s.withIme v).hram = s.hram := rfl
@[simp] theorem State.withIme_backing (v : Bool) : (s.withIme v).backing = s.backing := rfl

@[simp] theorem State.withImeScheduled_regs (v : Bool) : (s.withImeScheduled v).regs = s.regs := rfl
@[simp] theorem State.withImeScheduled_flags (v : Bool) : (s.withImeScheduled v).flags = s.flags := rfl
@[simp] theorem State.withImeScheduled_sp (v : Bool) : (s.withImeScheduled v).sp = s.sp := rfl
@[simp] theorem State.withImeScheduled_pc (v : Bool) : (s.withImeScheduled v).pc = s.pc := rfl
@[simp] theorem State.withImeScheduled_ime (v : Bool) : (s.withImeScheduled v).ime = s.ime := rfl
@[simp] theorem State.withImeScheduled_imeScheduled (v : Bool) : (s.withImeScheduled v).imeScheduled = v := rfl
@[simp] theorem State.withImeScheduled_halted (v : Bool) : (s.withImeScheduled v).halted = s.halted := rfl
@[simp] theorem State.withImeScheduled_stopped (v : Bool) : (s.withImeScheduled v).stopped = s.stopped := rfl
@[simp] theorem State.withImeScheduled_fault (v : Bool) : (s.withImeScheduled v).fault = s.fault := rfl
@[simp] theorem State.withImeScheduled_ie (v : Bool) : (s.withImeScheduled v).ie = s.ie := rfl
@[simp] theorem State.withImeScheduled_intFlags (v : Bool) : (s.withImeScheduled v).intFlags = s.intFlags := rfl
@[simp] theorem State.withImeScheduled_timer (v : Bool) : (s.withImeScheduled v).timer = s.timer := rfl
@[simp] theorem State.withImeScheduled_sb (v : Bool) : (s.withImeScheduled v).sb = s.sb := rfl
@[simp] theorem State.withImeScheduled_sc (v : Bool) : (s.withImeScheduled v).sc = s.sc := rfl
@[simp] theorem State.withImeScheduled_wram (v : Bool) : (s.withImeScheduled v).wram = s.wram := rfl
@[simp] theorem State.withImeScheduled_hram (v : Bool) : (s.withImeScheduled v).hram = s.hram := rfl
@[simp] theorem State.withImeScheduled_backing (v : Bool) : (s.withImeScheduled v).backing = s.backing := rfl

@[simp] theorem State.withHalted_regs (v : Bool) : (s.withHalted v).regs = s.regs := rfl
@[simp] theorem State.withHalted_flags (v : Bool) : (s.withHalted v).flags = s.flags := rfl
@[simp] theorem State.withHalted_sp (v : Bool) : (s.withHalted v).sp = s.sp := rfl
@[simp] theorem State.withHalted_pc (v : Bool) : (s.withHalted v).pc = s.pc := rfl
@[simp] theorem State.withHalted_ime (v : Bool) : (s.withHalted v).ime = s.ime := rfl
@[simp] theorem State.withHalted_imeScheduled (v : Bool) : (s.withHalted v).imeScheduled = s.imeScheduled := rfl
@[simp] theorem State.withHalted_halted (v : Bool) : (s.withHalted v).halted = v := rfl
@[simp] theorem State.withHalted_stopped (v : Bool) : (s.withHalted v).stopped = s.stopped := rfl
@[simp] theorem State.withHalted_fault (v : Bool) : (s.withHalted v).fault = s.fault := rfl
@[simp] theorem State.withHalted_ie (v : Bool) : (s.withHalted v).ie = s.ie := rfl
@[simp] theorem State.withHalted_intFlags (v : Bool) : (s.withHalted v).intFlags = s.intFlags := rfl
@[simp] theorem State.withHalted_timer (v : Bool) : (s.withHalted v).timer = s.timer := rfl
@[simp] theorem State.withHalted_sb (v : Bool) : (s.withHalted v).sb = s.sb := rfl
@[simp] theorem State.withHalted_sc (v : Bool) : (s.withHalted v).sc = s.sc := rfl
@[simp] theorem State.withHalted_wram (v : Bool) : (s.withHalted v).wram = s.wram := rfl
@[simp] theorem State.withHalted_hram (v : Bool) : (s.withHalted v).hram = s.hram := rfl
@[simp] theorem State.withHalted_backing (v : Bool) : (s.withHalted v).backing = s.backing := rfl

@[simp] theorem State.withStopped_regs (v : Bool) : (s.withStopped v).regs = s.regs := rfl
@[simp] theorem State.withStopped_flags (v : Bool) : (s.withStopped v).flags = s.flags := rfl
@[simp] theorem State.withStopped_sp (v : Bool) : (s.withStopped v).sp = s.sp := rfl
@[simp] theorem State.withStopped_pc (v : Bool) : (s.withStopped v).pc = s.pc := rfl
@[simp] theorem State.withStopped_ime (v : Bool) : (s.withStopped v).ime = s.ime := rfl
@[simp] theorem State.withStopped_imeScheduled (v : Bool) : (s.withStopped v).imeScheduled = s.imeScheduled := rfl
@[simp] theorem State.withStopped_halted (v : Bool) : (s.withStopped v).halted = s.halted := rfl
@[simp] theorem State.withStopped_stopped (v : Bool) : (s.withStopped v).stopped = v := rfl
@[simp] theorem State.withStopped_fault (v : Bool) : (s.withStopped v).fault = s.fault := rfl
@[simp] theorem State.withStopped_ie (v : Bool) : (s.withStopped v).ie = s.ie := rfl
@[simp] theorem State.withStopped_intFlags (v : Bool) : (s.withStopped v).intFlags = s.intFlags := rfl
@[simp] theorem State.withStopped_timer (v : Bool) : (s.withStopped v).timer = s.timer := rfl
@[simp] theorem State.withStopped_sb (v : Bool) : (s.withStopped v).sb = s.sb := rfl
@[simp] theorem State.withStopped_sc (v : Bool) : (s.withStopped v).sc = s.sc := rfl
@[simp] theorem State.withStopped_wram (v : Bool) : (s.withStopped v).wram = s.wram := rfl
@[simp] theorem State.withStopped_hram (v : Bool) : (s.withStopped v).hram = s.hram := rfl
@[simp] theorem State.withStopped_backing (v : Bool) : (s.withStopped v).backing = s.backing := rfl

@[simp] theorem State.withFault_regs (v : Option FaultReport) : (s.withFault v).regs = s.regs := rfl
@[simp] theorem State.withFault_flags (v : Option FaultReport) : (s.withFault v).flags = s.flags := rfl
@[simp] theorem State.withFault_sp (v : Option FaultReport) : (s.withFault v).sp = s.sp := rfl
@[simp] theorem State.withFault_pc (v : Option FaultReport) : (s.withFault v).pc = s.pc := rfl
@[simp] theorem State.withFault_ime (v : Option FaultReport) : (s.withFault v).ime = s.ime := rfl
@[simp] theorem State.withFault_imeScheduled (v : Option FaultReport) : (s.withFault v).imeScheduled = s.imeScheduled := rfl
@[simp] theorem State.withFault_halted (v : Option FaultReport) : (s.withFault v).halted = s.halted := rfl
@[simp] theorem State.withFault_stopped (v : Option FaultReport) : (s.withFault v).stopped = s.stopped := rfl
@[simp] theorem State.withFault_fault (v : Option FaultReport) : (s.withFault v).fault = v := rfl
@[simp] theorem State.withFault_ie (v : Option FaultReport) : (s.withFault v).ie = s.ie := rfl
@[simp] theorem State.withFault_intFlags (v : Option FaultReport) : (s.withFault v).intFlags = s.intFlags := rfl
@[simp] theorem State.withFault_timer (v : Option FaultReport) : (s.withFault v).timer = s.timer := rfl
@[simp] theorem State.withFault_sb (v : Option FaultReport) : (s.withFault v).sb = s.sb := rfl
@[simp] theorem State.withFault_sc (v : Option FaultReport) : (s.withFault v).sc = s.sc := rfl
@[simp] theorem State.withFault_wram (v : Option FaultReport) : (s.withFault v).wram = s.wram := rfl
@[simp] theorem State.withFault_hram (v : Option FaultReport) : (s.withFault v).hram = s.hram := rfl
@[simp] theorem State.withFault_backing (v : Option FaultReport) : (s.withFault v).backing = s.backing := rfl

@[simp] theorem State.withIe_regs (v : Byte) : (s.withIe v).regs = s.regs := rfl
@[simp] theorem State.withIe_flags (v : Byte) : (s.withIe v).flags = s.flags := rfl
@[simp] theorem State.withIe_sp (v : Byte) : (s.withIe v).sp = s.sp := rfl
@[simp] theorem State.withIe_pc (v : Byte) : (s.withIe v).pc = s.pc := rfl
@[simp] theorem State.withIe_ime (v : Byte) : (s.withIe v).ime = s.ime := rfl
@[simp] theorem State.withIe_imeScheduled (v : Byte) : (s.withIe v).imeScheduled = s.imeScheduled := rfl
@[simp] theorem State.withIe_halted (v : Byte) : (s.withIe v).halted = s.halted := rfl
@[simp] theorem State.withIe_stopped (v : Byte) : (s.withIe v).stopped = s.stopped := rfl
@[simp] theorem State.withIe_fault (v : Byte) : (s.withIe v).fault = s.fault := rfl
@[simp] theorem State.withIe_ie (v : Byte) : (s.withIe v).ie = v := rfl
@[simp] theorem State.withIe_intFlags (v : Byte) : (s.withIe v).intFlags = s.intFlags := rfl
@[simp] theorem State.withIe_timer (v : Byte) : (s.withIe v).timer = s.timer := rfl
@[simp] theorem State.withIe_sb (v : Byte) : (s.withIe v).sb = s.sb := rfl
@[simp] theorem State.withIe_sc (v : Byte) : (s.withIe v).sc = s.sc := rfl
@[simp] theorem State.withIe_wram (v : Byte) : (s.withIe v).wram = s.wram := rfl
@[simp] theorem State.withIe_hram (v : Byte) : (s.withIe v).hram = s.hram := rfl
@[simp] theorem State.withIe_backing (v : Byte) : (s.withIe v).backing = s.backing := rfl

@[simp] theorem State.withIntFlags_regs (v : Byte) : (s.withIntFlags v).regs = s.regs := rfl
@[simp] theorem State.withIntFlags_flags (v : Byte) : (s.withIntFlags v).flags = s.flags := rfl
@[simp] theorem State.withIntFlags_sp (v : Byte) : (s.withIntFlags v).sp = s.sp := rfl
@[simp] theorem State.withIntFlags_pc (v : Byte) : (s.withIntFlags v).pc = s.pc := rfl
@[simp] theorem State.withIntFlags_ime (v : Byte) : (s.withIntFlags v).ime = s.ime := rfl
@[simp] theorem State.withIntFlags_imeScheduled (v : Byte) : (s.withIntFlags v).imeScheduled = s.imeScheduled := rfl
@[simp] theorem State.withIntFlags_halted (v : Byte) : (s.withIntFlags v).halted = s.halted := rfl
@[simp] theorem State.withIntFlags_stopped (v : Byte) : (s.withIntFlags v).stopped = s.stopped := rfl
@[simp] theorem State.withIntFlags_fault (v : Byte) : (s.withIntFlags v).fault = s.fault := rfl
@[simp] theorem State.withIntFlags_ie (v : Byte) : (s.withIntFlags v).ie = s.ie := rfl
@[simp] theorem State.withIntFlags_intFlags (v : Byte) : (s.withIntFlags v).intFlags = v := rfl
@[simp] theorem State.withIntFlags_timer (v : Byte) : (s.withIntFlags v).timer = s.timer := rfl
@[simp] theorem State.withIntFlags_sb (v : Byte) : (s.withIntFlags v).sb = s.sb := rfl
@[simp] theorem State.withIntFlags_sc (v : Byte) : (s.withIntFlags v).sc = s.sc := rfl
@[simp] theorem State.withIntFlags_wram (v : Byte) : (s.withIntFlags v).wram = s.wram := rfl
@[simp] theorem State.withIntFlags_hram (v : Byte) : (s.withIntFlags v).hram = s.hram := rfl
@[simp] theorem State.withIntFlags_backing (v : Byte) : (s.withIntFlags v).backing = s.backing := rfl

@[simp] theorem State.withTimer_regs (v : Timer) : (s.withTimer v).regs = s.regs := rfl
@[simp] theorem State.withTimer_flags (v : Timer) : (s.withTimer v).flags = s.flags := rfl
@[simp] theorem State.withTimer_sp (v : Timer) : (s.withTimer v).sp = s.sp := rfl
@[simp] theorem State.withTimer_pc (v : Timer) : (s.withTimer v).pc = s.pc := rfl
@[simp] theorem State.withTimer_ime (v : Timer) : (s.withTimer v).ime = s.ime := rfl
@[simp] theorem State.withTimer_imeScheduled (v : Timer) : (s.withTimer v).imeScheduled = s.imeScheduled := rfl
@[simp] theorem State.withTimer_halted (v : Timer) : (s.withTimer v).halted = s.halted := rfl
@[simp] theorem State.withTimer_stopped (v : Timer) : (s.withTimer v).stopped = s.stopped := rfl
@[simp] theorem State.withTimer_fault (v : Timer) : (s.withTimer v).fault = s.fault := rfl
@[simp] theorem State.withTimer_ie (v : Timer) : (s.withTimer v).ie = s.ie := rfl
@[simp] theorem State.withTimer_intFlags (v : Timer) : (s.withTimer v).intFlags = s.intFlags := rfl
@[simp] theorem State.withTimer_timer (v : Timer) : (s.withTimer v).timer = v := rfl
@[simp] theorem State.withTimer_sb (v : Timer) : (s.withTimer v).sb = s.sb := rfl
@[simp] theorem State.withTimer_sc (v : Timer) : (s.withTimer v).sc = s.sc := rfl
@[simp] theorem State.withTimer_wram (v : Timer) : (s.withTimer v).wram = s.wram := rfl
@[simp] theorem State.withTimer_hram (v : Timer) : (s.withTimer v).hram = s.hram := rfl
@[simp] theorem State.withTimer_backing (v : Timer) : (s.withTimer v).backing = s.backing := rfl

@[simp] theorem State.withSb_regs (v : Byte) : (s.withSb v).regs = s.regs := rfl
@[simp] theorem State.withSb_flags (v : Byte) : (s.withSb v).flags = s.flags := rfl
@[simp] theorem State.withSb_sp (v : Byte) : (s.withSb v).sp = s.sp := rfl
@[simp] theorem State.withSb_pc (v : Byte) : (s.withSb v).pc = s.pc := rfl
@[simp] theorem State.withSb_ime (v : Byte) : (s.withSb v).ime = s.ime := rfl
@[simp] theorem State.withSb_imeScheduled (v : Byte) : (s.withSb v).imeScheduled = s.imeScheduled := rfl
@[simp] theorem State.withSb_halted (v : Byte) : (s.withSb v).halted = s.halted := rfl
@[simp] theorem State.withSb_stopped (v : Byte) : (s.withSb v).stopped = s.stopped := rfl
@[simp] theorem State.withSb_fault (v : Byte) : (s.withSb v).fault = s.fault := rfl
@[simp] theorem State.withSb_ie (v : Byte) : (s.withSb v).ie = s.ie := rfl
@[simp] theorem State.withSb_intFlags (v : Byte) : (s.withSb v).intFlags = s.intFlags := rfl
@[simp] theorem State.withSb_timer (v : Byte) : (s.withSb v).timer = s.timer := rfl
@[simp] theorem State.withSb_sb (v : Byte) : (s.withSb v).sb = v := rfl
@[simp] theorem State.withSb_sc (v : Byte) : (s.withSb v).sc = s.sc := rfl
@[simp] theorem State.withSb_wram (v : Byte) : (s.withSb v).wram = s.wram := rfl
@[simp] theorem State.withSb_hram (v : Byte) : (s.withSb v).hram = s.hram := rfl
@[simp] theorem State.withSb_backing (v : Byte) : (s.withSb v).backing = s.backing := rfl

@[simp] theorem State.withSc_regs (v : Byte) : (s.withSc v).regs = s.regs := rfl
@[simp] theorem State.withSc_flags (v : Byte) : (s.withSc v).flags = s.flags := rfl
@[simp] theorem State.withSc_sp (v : Byte) : (s.withSc v).sp = s.sp := rfl
@[simp] theorem State.withSc_pc (v : Byte) : (s.withSc v).pc = s.pc := rfl
@[simp] theorem State.withSc_ime (v : Byte) : (s.withSc v).ime = s.ime := rfl
@[simp] theorem State.withSc_imeScheduled (v : Byte) : (s.withSc v).imeScheduled = s.imeScheduled := rfl
@[simp] theorem State.withSc_halted (v : Byte) : (s.withSc v).halted = s.halted := rfl
@[simp] theorem State.withSc_stopped (v : Byte) : (s.withSc v).stopped = s.stopped := rfl
@[simp] theorem State.withSc_fault (v : Byte) : (s.withSc v).fault = s.fault := rfl
@[simp] theorem State.withSc_ie (v : Byte) : (s.withSc v).ie = s.ie := rfl
@[simp] theorem State.withSc_intFlags (v : Byte) : (s.withSc v).intFlags = s.intFlags := rfl
@[simp] theorem State.withSc_timer (v : Byte) : (s.withSc v).timer = s.timer := rfl
@[simp] theorem State.withSc_sb (v : Byte) : (s.withSc v).sb = s.sb := rfl
@[simp] theorem State.withSc_sc (v : Byte) : (s.withSc v).sc = v := rfl
@[simp] theorem State.withSc_wram (v : Byte) : (s.withSc v).wram = s.wram := rfl
@[simp] theorem State.withSc_hram (v : Byte) : (s.withSc v).hram = s.hram := rfl
@[simp] theorem State.withSc_backing (v : Byte) : (s.withSc v).backing = s.backing := rfl

@[simp] theorem State.withWram_regs (v : Memory) : (s.withWram v).regs = s.regs := rfl
@[simp] theorem State.withWram_flags (v : Memory) : (s.withWram v).flags = s.flags := rfl
@[simp] theorem State.withWram_sp (v : Memory) : (s.withWram v).sp = s.sp := rfl
@[simp] theorem State.withWram_pc (v : Memory) : (s.withWram v).pc = s.pc := rfl
@[simp] theorem State.withWram_ime (v : Memory) : (s.withWram v).ime = s.ime := rfl
@[simp] theorem State.withWram_imeScheduled (v : Memory) : (s.withWram v).imeScheduled = s.imeScheduled := rfl
@[simp] theorem State.withWram_halted (v : Memory) : (s.withWram v).halted = s.halted := rfl
@[simp] theorem State.withWram_stopped (v : Memory) : (s.withWram v).stopped = s.stopped := rfl
@[simp] theorem State.withWram_fault (v : Memory) : (s.withWram v).fault = s.fault := rfl
@[simp] theorem State.withWram_ie (v : Memory) : (s.withWram v).ie = s.ie := rfl
@[simp] theorem State.withWram_intFlags (v : Memory) : (s.withWram v).intFlags = s.intFlags := rfl
@[simp] theorem State.withWram_timer (v : Memory) : (s.withWram v).timer = s.timer := rfl
@[simp] theorem State.withWram_sb (v : Memory) : (s.withWram v).sb = s.sb := rfl
@[simp] theorem State.withWram_sc (v : Memory) : (s.withWram v).sc = s.sc := rfl
@[simp] theorem State.withWram_wram (v : Memory) : (s.withWram v).wram = v := rfl
@[simp] theorem State.withWram_hram (v : Memory) : (s.withWram v).hram = s.hram := rfl
@[simp] theorem State.withWram_backing (v : Memory) : (s.withWram v).backing = s.backing := rfl

@[simp] theorem State.withHram_regs (v : Memory) : (s.withHram v).regs = s.regs := rfl
@[simp] theorem State.withHram_flags (v : Memory) : (s.withHram v).flags = s.flags := rfl
@[simp] theorem State.withHram_sp (v : Memory) : (s.withHram v).sp = s.sp := rfl
@[simp] theorem State.withHram_pc (v : Memory) : (s.withHram v).pc = s.pc := rfl
@[simp] theorem State.withHram_ime (v : Memory) : (s.withHram v).ime = s.ime := rfl
@[simp] theorem State.withHram_imeScheduled (v : Memory) : (s.withHram v).imeScheduled = s.imeScheduled := rfl
@[simp] theorem State.withHram_halted (v : Memory) : (s.withHram v).halted = s.halted := rfl
@[simp] theorem State.withHram_stopped (v : Memory) : (s.withHram v).stopped = s.stopped := rfl
@[simp] theorem State.withHram_fault (v : Memory) : (s.withHram v).fault = s.fault := rfl
@[simp] theorem State.withHram_ie (v : Memory) : (s.withHram v).ie = s.ie := rfl
@[simp] theorem State.withHram_intFlags (v : Memory) : (s.withHram v).intFlags = s.intFlags := rfl
@[simp] theorem State.withHram_timer (v : Memory) : (s.withHram v).timer = s.timer := rfl
@[simp] theorem State.withHram_sb (v : Memory) : (s.withHram v).sb = s.sb := rfl
@[simp] theorem State.withHram_sc (v : Memory) : (s.withHram v).sc = s.sc := rfl
@[simp] theorem State.withHram_wram (v : Memory) : (s.withHram v).wram = s.wram := rfl
@[simp] theorem State.withHram_hram (v : Memory) : (s.withHram v).hram = v := rfl
@[simp] theorem State.withHram_backing (v : Memory) : (s.withHram v).backing = s.backing := rfl

@[simp] theorem State.withBacking_regs (v : Memory) : (s.withBacking v).regs = s.regs := rfl
@[simp] theorem State.withBacking_flags (v : Memory) : (s.withBacking v).flags = s.flags := rfl
@[simp] theorem State.withBacking_sp (v : Memory) : (s.withBacking v).sp = s.sp := rfl
@[simp] theorem State.withBacking_pc (v : Memory) : (s.withBacking v).pc = s.pc := rfl
@[simp] theorem State.withBacking_ime (v : Memory) : (s.withBacking v).ime = s.ime := rfl
@[simp] theorem State.withBacking_imeScheduled (v : Memory) : (s.withBacking v).imeScheduled = s.imeScheduled := rfl
@[simp] theorem State.withBacking_halted (v : Memory) : (s.withBacking v).halted = s.halted := rfl
@[simp] theorem State.withBacking_stopped (v : Memory) : (s.withBacking v).stopped = s.stopped := rfl
@[simp] theorem State.withBacking_fault (v : Memory) : (s.withBacking v).fault = s.fault := rfl
@[simp] theorem State.withBacking_ie (v : Memory) : (s.withBacking v).ie = s.ie := rfl
@[simp] theorem State.withBacking_intFlags (v : Memory) : (s.withBacking v).intFlags = s.intFlags := rfl
@[simp] theorem State.withBacking_timer (v : Memory) : (s.withBacking v).timer = s.timer := rfl
@[simp] theorem State.withBacking_sb (v : Memory) : (s.withBacking v).sb = s.sb := rfl
@[simp] theorem State.withBacking_sc (v : Memory) : (s.withBacking v).sc = s.sc := rfl
@[simp] theorem State.withBacking_wram (v : Memory) : (s.withBacking v).wram = s.wram := rfl
@[simp] theorem State.withBacking_hram (v : Memory) : (s.withBacking v).hram = s.hram := rfl
@[simp] theorem State.withBacking_backing (v : Memory) : (s.withBacking v).backing = v := rfl

/-- Two states with equal fields are equal. -/
theorem State.ext_fields {s t : State} (h1 : s.regs = t.regs) (h2 : s.flags = t.flags) (h3 : s.sp = t.sp)
    (h4 : s.pc = t.pc) (h5 : s.ime = t.ime) (h6 : s.imeScheduled = t.imeScheduled) (h7 : s.halted = t.halted)
    (h8 : s.stopped = t.stopped) (h9 : s.fault = t.fault) (h10 : s.ie = t.ie) (h11 : s.intFlags = t.intFlags)
    (h12 : s.timer = t.timer) (h13 : s.sb = t.sb) (h14 : s.sc = t.sc) (h15 : s.wram = t.wram)
    (h16 : s.hram = t.hram) (h17 : s.backing = t.backing) : s = t := by
  cases s; cases t; simp_all

end Sys2Proof.Machine
end

