-- ==== Sys2Proof/Laws/Ops.lean ====
section
/-! SUPPORT. What each shared operation of the machine can change: field by field, once. Later proofs cite
these lemmas and do not unfold the operations. -/

namespace Sys2Proof.Machine

/-! ## The timer changes only the timer and IF -/

@[simp] theorem requestInterrupt_regs (i : IntSource) (s : State) : (requestInterrupt i s).regs = s.regs := rfl
@[simp] theorem requestInterrupt_flags (i : IntSource) (s : State) : (requestInterrupt i s).flags = s.flags := rfl
@[simp] theorem requestInterrupt_sp (i : IntSource) (s : State) : (requestInterrupt i s).sp = s.sp := rfl
@[simp] theorem requestInterrupt_pc (i : IntSource) (s : State) : (requestInterrupt i s).pc = s.pc := rfl
@[simp] theorem requestInterrupt_ime (i : IntSource) (s : State) : (requestInterrupt i s).ime = s.ime := rfl
@[simp] theorem requestInterrupt_imeScheduled (i : IntSource) (s : State) : (requestInterrupt i s).imeScheduled = s.imeScheduled := rfl
@[simp] theorem requestInterrupt_halted (i : IntSource) (s : State) : (requestInterrupt i s).halted = s.halted := rfl
@[simp] theorem requestInterrupt_stopped (i : IntSource) (s : State) : (requestInterrupt i s).stopped = s.stopped := rfl
@[simp] theorem requestInterrupt_fault (i : IntSource) (s : State) : (requestInterrupt i s).fault = s.fault := rfl
@[simp] theorem requestInterrupt_ie (i : IntSource) (s : State) : (requestInterrupt i s).ie = s.ie := rfl
@[simp] theorem requestInterrupt_sb (i : IntSource) (s : State) : (requestInterrupt i s).sb = s.sb := rfl
@[simp] theorem requestInterrupt_sc (i : IntSource) (s : State) : (requestInterrupt i s).sc = s.sc := rfl
@[simp] theorem requestInterrupt_wram (i : IntSource) (s : State) : (requestInterrupt i s).wram = s.wram := rfl
@[simp] theorem requestInterrupt_hram (i : IntSource) (s : State) : (requestInterrupt i s).hram = s.hram := rfl
@[simp] theorem requestInterrupt_backing (i : IntSource) (s : State) : (requestInterrupt i s).backing = s.backing := rfl
@[simp] theorem requestInterrupt_timer (i : IntSource) (s : State) : (requestInterrupt i s).timer = s.timer := rfl

@[simp] theorem timaIncrement_regs (s : State) : (timaIncrement s).regs = s.regs := by
  unfold timaIncrement; split <;> rfl
@[simp] theorem timaIncrement_flags (s : State) : (timaIncrement s).flags = s.flags := by
  unfold timaIncrement; split <;> rfl
@[simp] theorem timaIncrement_sp (s : State) : (timaIncrement s).sp = s.sp := by
  unfold timaIncrement; split <;> rfl
@[simp] theorem timaIncrement_pc (s : State) : (timaIncrement s).pc = s.pc := by
  unfold timaIncrement; split <;> rfl
@[simp] theorem timaIncrement_ime (s : State) : (timaIncrement s).ime = s.ime := by
  unfold timaIncrement; split <;> rfl
@[simp] theorem timaIncrement_imeScheduled (s : State) : (timaIncrement s).imeScheduled = s.imeScheduled := by
  unfold timaIncrement; split <;> rfl
@[simp] theorem timaIncrement_halted (s : State) : (timaIncrement s).halted = s.halted := by
  unfold timaIncrement; split <;> rfl
@[simp] theorem timaIncrement_stopped (s : State) : (timaIncrement s).stopped = s.stopped := by
  unfold timaIncrement; split <;> rfl
@[simp] theorem timaIncrement_fault (s : State) : (timaIncrement s).fault = s.fault := by
  unfold timaIncrement; split <;> rfl
@[simp] theorem timaIncrement_ie (s : State) : (timaIncrement s).ie = s.ie := by
  unfold timaIncrement; split <;> rfl
@[simp] theorem timaIncrement_sb (s : State) : (timaIncrement s).sb = s.sb := by
  unfold timaIncrement; split <;> rfl
@[simp] theorem timaIncrement_sc (s : State) : (timaIncrement s).sc = s.sc := by
  unfold timaIncrement; split <;> rfl
@[simp] theorem timaIncrement_wram (s : State) : (timaIncrement s).wram = s.wram := by
  unfold timaIncrement; split <;> rfl
@[simp] theorem timaIncrement_hram (s : State) : (timaIncrement s).hram = s.hram := by
  unfold timaIncrement; split <;> rfl
@[simp] theorem timaIncrement_backing (s : State) : (timaIncrement s).backing = s.backing := by
  unfold timaIncrement; split <;> rfl

@[simp] theorem moveDiv_regs (d : BitVec 16) (s : State) : (moveDiv d s).regs = s.regs := by
  unfold moveDiv; simp only []; split <;> simp
@[simp] theorem moveDiv_flags (d : BitVec 16) (s : State) : (moveDiv d s).flags = s.flags := by
  unfold moveDiv; simp only []; split <;> simp
@[simp] theorem moveDiv_sp (d : BitVec 16) (s : State) : (moveDiv d s).sp = s.sp := by
  unfold moveDiv; simp only []; split <;> simp
@[simp] theorem moveDiv_pc (d : BitVec 16) (s : State) : (moveDiv d s).pc = s.pc := by
  unfold moveDiv; simp only []; split <;> simp
@[simp] theorem moveDiv_ime (d : BitVec 16) (s : State) : (moveDiv d s).ime = s.ime := by
  unfold moveDiv; simp only []; split <;> simp
@[simp] theorem moveDiv_imeScheduled (d : BitVec 16) (s : State) : (moveDiv d s).imeScheduled = s.imeScheduled := by
  unfold moveDiv; simp only []; split <;> simp
@[simp] theorem moveDiv_halted (d : BitVec 16) (s : State) : (moveDiv d s).halted = s.halted := by
  unfold moveDiv; simp only []; split <;> simp
@[simp] theorem moveDiv_stopped (d : BitVec 16) (s : State) : (moveDiv d s).stopped = s.stopped := by
  unfold moveDiv; simp only []; split <;> simp
@[simp] theorem moveDiv_fault (d : BitVec 16) (s : State) : (moveDiv d s).fault = s.fault := by
  unfold moveDiv; simp only []; split <;> simp
@[simp] theorem moveDiv_ie (d : BitVec 16) (s : State) : (moveDiv d s).ie = s.ie := by
  unfold moveDiv; simp only []; split <;> simp
@[simp] theorem moveDiv_sb (d : BitVec 16) (s : State) : (moveDiv d s).sb = s.sb := by
  unfold moveDiv; simp only []; split <;> simp
@[simp] theorem moveDiv_sc (d : BitVec 16) (s : State) : (moveDiv d s).sc = s.sc := by
  unfold moveDiv; simp only []; split <;> simp
@[simp] theorem moveDiv_wram (d : BitVec 16) (s : State) : (moveDiv d s).wram = s.wram := by
  unfold moveDiv; simp only []; split <;> simp
@[simp] theorem moveDiv_hram (d : BitVec 16) (s : State) : (moveDiv d s).hram = s.hram := by
  unfold moveDiv; simp only []; split <;> simp
@[simp] theorem moveDiv_backing (d : BitVec 16) (s : State) : (moveDiv d s).backing = s.backing := by
  unfold moveDiv; simp only []; split <;> simp

/-- A divider move leaves the divider where it says, and TMA and TAC alone. -/
@[simp] theorem timaIncrement_div (s : State) : (timaIncrement s).timer.div = s.timer.div := by
  unfold timaIncrement; split <;> rfl
@[simp] theorem timaIncrement_tma (s : State) : (timaIncrement s).timer.tma = s.timer.tma := by
  unfold timaIncrement; split <;> rfl
@[simp] theorem timaIncrement_tac (s : State) : (timaIncrement s).timer.tac = s.timer.tac := by
  unfold timaIncrement; split <;> rfl
@[simp] theorem moveDiv_div (d : BitVec 16) (s : State) : (moveDiv d s).timer.div = d := by
  unfold moveDiv; simp only []; split <;> simp
@[simp] theorem moveDiv_tma (d : BitVec 16) (s : State) : (moveDiv d s).timer.tma = s.timer.tma := by
  unfold moveDiv; simp only []; split <;> simp
@[simp] theorem moveDiv_tac (d : BitVec 16) (s : State) : (moveDiv d s).timer.tac = s.timer.tac := by
  unfold moveDiv; simp only []; split <;> simp

/-- TIMA at FF overflows: reload and request (R316). -/
theorem timaIncrement_overflow {s : State} (h : s.timer.tima = 0xFF) :
    timaIncrement s = requestInterrupt .timer (s.withTimer { s.timer with tima := s.timer.tma }) := if_pos h
/-- TIMA below FF counts up (R316). -/
theorem timaIncrement_count {s : State} (h : ¬ s.timer.tima = 0xFF) :
    timaIncrement s = s.withTimer { s.timer with tima := s.timer.tima + 1 } := if_neg h
/-- Whether moving the divider to `d` is a falling edge that an enabled timer counts (R315, R318). -/
def divFalls (d : BitVec 16) (s : State) : Bool :=
  timerEnabled s.timer.tac && (s.timer.div.getLsbD (selectedBit s.timer.tac) && !d.getLsbD (selectedBit s.timer.tac))
theorem moveDiv_falling {d : BitVec 16} {s : State} (h : divFalls d s = true) :
    moveDiv d s = timaIncrement (s.withTimer { s.timer with div := d }) := if_pos h
theorem moveDiv_steady {d : BitVec 16} {s : State} (h : ¬ divFalls d s = true) :
    moveDiv d s = s.withTimer { s.timer with div := d } := if_neg h

@[simp] theorem timerTick_regs (s : State) : (timerTick s).regs = s.regs := by simp [timerTick]
@[simp] theorem timerTick_flags (s : State) : (timerTick s).flags = s.flags := by simp [timerTick]
@[simp] theorem timerTick_sp (s : State) : (timerTick s).sp = s.sp := by simp [timerTick]
@[simp] theorem timerTick_pc (s : State) : (timerTick s).pc = s.pc := by simp [timerTick]
@[simp] theorem timerTick_ime (s : State) : (timerTick s).ime = s.ime := by simp [timerTick]
@[simp] theorem timerTick_imeScheduled (s : State) : (timerTick s).imeScheduled = s.imeScheduled := by simp [timerTick]
@[simp] theorem timerTick_halted (s : State) : (timerTick s).halted = s.halted := by simp [timerTick]
@[simp] theorem timerTick_stopped (s : State) : (timerTick s).stopped = s.stopped := by simp [timerTick]
@[simp] theorem timerTick_fault (s : State) : (timerTick s).fault = s.fault := by simp [timerTick]
@[simp] theorem timerTick_ie (s : State) : (timerTick s).ie = s.ie := by simp [timerTick]
@[simp] theorem timerTick_sb (s : State) : (timerTick s).sb = s.sb := by simp [timerTick]
@[simp] theorem timerTick_sc (s : State) : (timerTick s).sc = s.sc := by simp [timerTick]
@[simp] theorem timerTick_wram (s : State) : (timerTick s).wram = s.wram := by simp [timerTick]
@[simp] theorem timerTick_hram (s : State) : (timerTick s).hram = s.hram := by simp [timerTick]
@[simp] theorem timerTick_backing (s : State) : (timerTick s).backing = s.backing := by simp [timerTick]
@[simp] theorem timerTick_div (s : State) : (timerTick s).timer.div = s.timer.div + 1 := by simp [timerTick]
@[simp] theorem timerTick_tma (s : State) : (timerTick s).timer.tma = s.timer.tma := by simp [timerTick]
@[simp] theorem timerTick_tac (s : State) : (timerTick s).timer.tac = s.timer.tac := by simp [timerTick]

@[simp] theorem advance_zero (s : State) : advance 0 s = s := rfl
theorem advance_succ (n : Nat) (s : State) : advance (n + 1) s = advance n (timerTick s) := rfl

@[simp] theorem advance_regs (n : Nat) (s : State) : (advance n s).regs = s.regs := by
  induction n generalizing s with
  | zero => rfl
  | succ n ih => simp [advance_succ, ih]
@[simp] theorem advance_flags (n : Nat) (s : State) : (advance n s).flags = s.flags := by
  induction n generalizing s with
  | zero => rfl
  | succ n ih => simp [advance_succ, ih]
@[simp] theorem advance_sp (n : Nat) (s : State) : (advance n s).sp = s.sp := by
  induction n generalizing s with
  | zero => rfl
  | succ n ih => simp [advance_succ, ih]
@[simp] theorem advance_pc (n : Nat) (s : State) : (advance n s).pc = s.pc := by
  induction n generalizing s with
  | zero => rfl
  | succ n ih => simp [advance_succ, ih]
@[simp] theorem advance_ime (n : Nat) (s : State) : (advance n s).ime = s.ime := by
  induction n generalizing s with
  | zero => rfl
  | succ n ih => simp [advance_succ, ih]
@[simp] theorem advance_imeScheduled (n : Nat) (s : State) : (advance n s).imeScheduled = s.imeScheduled := by
  induction n generalizing s with
  | zero => rfl
  | succ n ih => simp [advance_succ, ih]
@[simp] theorem advance_halted (n : Nat) (s : State) : (advance n s).halted = s.halted := by
  induction n generalizing s with
  | zero => rfl
  | succ n ih => simp [advance_succ, ih]
@[simp] theorem advance_stopped (n : Nat) (s : State) : (advance n s).stopped = s.stopped := by
  induction n generalizing s with
  | zero => rfl
  | succ n ih => simp [advance_succ, ih]
@[simp] theorem advance_fault (n : Nat) (s : State) : (advance n s).fault = s.fault := by
  induction n generalizing s with
  | zero => rfl
  | succ n ih => simp [advance_succ, ih]
@[simp] theorem advance_ie (n : Nat) (s : State) : (advance n s).ie = s.ie := by
  induction n generalizing s with
  | zero => rfl
  | succ n ih => simp [advance_succ, ih]
@[simp] theorem advance_sb (n : Nat) (s : State) : (advance n s).sb = s.sb := by
  induction n generalizing s with
  | zero => rfl
  | succ n ih => simp [advance_succ, ih]
@[simp] theorem advance_sc (n : Nat) (s : State) : (advance n s).sc = s.sc := by
  induction n generalizing s with
  | zero => rfl
  | succ n ih => simp [advance_succ, ih]
@[simp] theorem advance_wram (n : Nat) (s : State) : (advance n s).wram = s.wram := by
  induction n generalizing s with
  | zero => rfl
  | succ n ih => simp [advance_succ, ih]
@[simp] theorem advance_hram (n : Nat) (s : State) : (advance n s).hram = s.hram := by
  induction n generalizing s with
  | zero => rfl
  | succ n ih => simp [advance_succ, ih]
@[simp] theorem advance_backing (n : Nat) (s : State) : (advance n s).backing = s.backing := by
  induction n generalizing s with
  | zero => rfl
  | succ n ih => simp [advance_succ, ih]
@[simp] theorem advance_tma (n : Nat) (s : State) : (advance n s).timer.tma = s.timer.tma := by
  induction n generalizing s with
  | zero => rfl
  | succ n ih => simp [advance_succ, ih]
@[simp] theorem advance_tac (n : Nat) (s : State) : (advance n s).timer.tac = s.timer.tac := by
  induction n generalizing s with
  | zero => rfl
  | succ n ih => simp [advance_succ, ih]
@[simp] theorem advance_div (n : Nat) (s : State) : (advance n s).timer.div = s.timer.div + BitVec.ofNat 16 n := by
  induction n generalizing s with
  | zero => simp
  | succ n ih =>
    rw [advance_succ, ih, timerTick_div, BitVec.add_assoc]
    congr 1
    apply BitVec.eq_of_toNat_eq
    rw [BitVec.toNat_add, BitVec.toNat_ofNat, BitVec.toNat_ofNat, show (1 : BitVec 16).toNat = 1 from rfl]
    omega

/-- Ticks add up. -/
theorem advance_advance (m n : Nat) (s : State) : advance m (advance n s) = advance (n + m) s := by
  induction n generalizing s with
  | zero => simp
  | succ n ih => rw [advance_succ, ih, show n + 1 + m = (n + m) + 1 by omega, advance_succ]

/-- A machine cycle is one timer tick (R70, TICKS_PER_MCYCLE = 1). -/
@[simp] theorem tick_eq (s : State) : tick s = advance 1 s := rfl
@[simp] theorem internal_eq (s : State) : internal s = advance 1 s := rfl

/-! ## The bus -/

@[simp] theorem ioWrite_regs (r : IoReg) (v : Byte) (s : State) : (ioWrite r v s).regs = s.regs := by
  cases r <;> simp [ioWrite, writeDiv]
@[simp] theorem ioWrite_flags (r : IoReg) (v : Byte) (s : State) : (ioWrite r v s).flags = s.flags := by
  cases r <;> simp [ioWrite, writeDiv]
@[simp] theorem ioWrite_sp (r : IoReg) (v : Byte) (s : State) : (ioWrite r v s).sp = s.sp := by
  cases r <;> simp [ioWrite, writeDiv]
@[simp] theorem ioWrite_pc (r : IoReg) (v : Byte) (s : State) : (ioWrite r v s).pc = s.pc := by
  cases r <;> simp [ioWrite, writeDiv]
@[simp] theorem ioWrite_ime (r : IoReg) (v : Byte) (s : State) : (ioWrite r v s).ime = s.ime := by
  cases r <;> simp [ioWrite, writeDiv]
@[simp] theorem ioWrite_imeScheduled (r : IoReg) (v : Byte) (s : State) : (ioWrite r v s).imeScheduled = s.imeScheduled := by
  cases r <;> simp [ioWrite, writeDiv]
@[simp] theorem ioWrite_halted (r : IoReg) (v : Byte) (s : State) : (ioWrite r v s).halted = s.halted := by
  cases r <;> simp [ioWrite, writeDiv]
@[simp] theorem ioWrite_stopped (r : IoReg) (v : Byte) (s : State) : (ioWrite r v s).stopped = s.stopped := by
  cases r <;> simp [ioWrite, writeDiv]
@[simp] theorem ioWrite_fault (r : IoReg) (v : Byte) (s : State) : (ioWrite r v s).fault = s.fault := by
  cases r <;> simp [ioWrite, writeDiv]

@[simp] theorem ioWrite_ie (r : IoReg) (v : Byte) (s : State) : (ioWrite r v s).ie = s.ie := by
  cases r <;> simp [ioWrite, writeDiv]
@[simp] theorem ioWrite_wram (r : IoReg) (v : Byte) (s : State) : (ioWrite r v s).wram = s.wram := by
  cases r <;> simp [ioWrite, writeDiv]
@[simp] theorem ioWrite_hram (r : IoReg) (v : Byte) (s : State) : (ioWrite r v s).hram = s.hram := by
  cases r <;> simp [ioWrite, writeDiv]
@[simp] theorem ioWrite_backing (r : IoReg) (v : Byte) (s : State) : (ioWrite r v s).backing = s.backing := by
  cases r <;> simp [ioWrite, writeDiv]

@[simp] theorem busWrite_regs (a : Word) (v : Byte) (s : State) : (busWrite a v s).regs = s.regs := by
  unfold busWrite; split <;> simp
@[simp] theorem busWrite_flags (a : Word) (v : Byte) (s : State) : (busWrite a v s).flags = s.flags := by
  unfold busWrite; split <;> simp
@[simp] theorem busWrite_sp (a : Word) (v : Byte) (s : State) : (busWrite a v s).sp = s.sp := by
  unfold busWrite; split <;> simp
@[simp] theorem busWrite_pc (a : Word) (v : Byte) (s : State) : (busWrite a v s).pc = s.pc := by
  unfold busWrite; split <;> simp
@[simp] theorem busWrite_ime (a : Word) (v : Byte) (s : State) : (busWrite a v s).ime = s.ime := by
  unfold busWrite; split <;> simp
@[simp] theorem busWrite_imeScheduled (a : Word) (v : Byte) (s : State) : (busWrite a v s).imeScheduled = s.imeScheduled := by
  unfold busWrite; split <;> simp
@[simp] theorem busWrite_halted (a : Word) (v : Byte) (s : State) : (busWrite a v s).halted = s.halted := by
  unfold busWrite; split <;> simp
@[simp] theorem busWrite_stopped (a : Word) (v : Byte) (s : State) : (busWrite a v s).stopped = s.stopped := by
  unfold busWrite; split <;> simp
@[simp] theorem busWrite_fault (a : Word) (v : Byte) (s : State) : (busWrite a v s).fault = s.fault := by
  unfold busWrite; split <;> simp

/-! ## Machine cycles and the stack -/

@[simp] theorem memRead_fst (a : Word) (s : State) : (memRead a s).1 = busRead a (advance 1 s) := rfl
@[simp] theorem memRead_snd (a : Word) (s : State) : (memRead a s).2 = advance 1 s := rfl
theorem memWrite_eq (a : Word) (v : Byte) (s : State) : memWrite a v s = busWrite a v (advance 1 s) := rfl

@[simp] theorem memWrite_regs (a : Word) (v : Byte) (s : State) : (memWrite a v s).regs = s.regs := by simp [memWrite_eq]
@[simp] theorem memWrite_flags (a : Word) (v : Byte) (s : State) : (memWrite a v s).flags = s.flags := by simp [memWrite_eq]
@[simp] theorem memWrite_sp (a : Word) (v : Byte) (s : State) : (memWrite a v s).sp = s.sp := by simp [memWrite_eq]
@[simp] theorem memWrite_pc (a : Word) (v : Byte) (s : State) : (memWrite a v s).pc = s.pc := by simp [memWrite_eq]
@[simp] theorem memWrite_ime (a : Word) (v : Byte) (s : State) : (memWrite a v s).ime = s.ime := by simp [memWrite_eq]
@[simp] theorem memWrite_imeScheduled (a : Word) (v : Byte) (s : State) : (memWrite a v s).imeScheduled = s.imeScheduled := by simp [memWrite_eq]
@[simp] theorem memWrite_halted (a : Word) (v : Byte) (s : State) : (memWrite a v s).halted = s.halted := by simp [memWrite_eq]
@[simp] theorem memWrite_stopped (a : Word) (v : Byte) (s : State) : (memWrite a v s).stopped = s.stopped := by simp [memWrite_eq]
@[simp] theorem memWrite_fault (a : Word) (v : Byte) (s : State) : (memWrite a v s).fault = s.fault := by simp [memWrite_eq]

@[simp] theorem pushByte_regs (v : Byte) (s : State) : (pushByte v s).regs = s.regs := by simp [pushByte]
@[simp] theorem pushByte_flags (v : Byte) (s : State) : (pushByte v s).flags = s.flags := by simp [pushByte]
@[simp] theorem pushByte_pc (v : Byte) (s : State) : (pushByte v s).pc = s.pc := by simp [pushByte]
@[simp] theorem pushByte_ime (v : Byte) (s : State) : (pushByte v s).ime = s.ime := by simp [pushByte]
@[simp] theorem pushByte_imeScheduled (v : Byte) (s : State) : (pushByte v s).imeScheduled = s.imeScheduled := by simp [pushByte]
@[simp] theorem pushByte_halted (v : Byte) (s : State) : (pushByte v s).halted = s.halted := by simp [pushByte]
@[simp] theorem pushByte_stopped (v : Byte) (s : State) : (pushByte v s).stopped = s.stopped := by simp [pushByte]
@[simp] theorem pushByte_fault (v : Byte) (s : State) : (pushByte v s).fault = s.fault := by simp [pushByte]
@[simp] theorem pushByte_sp (v : Byte) (s : State) : (pushByte v s).sp = s.sp - 1 := by simp [pushByte]
@[simp] theorem push16_regs (v : Word) (s : State) : (push16 v s).regs = s.regs := by simp [push16]
@[simp] theorem push16_flags (v : Word) (s : State) : (push16 v s).flags = s.flags := by simp [push16]
@[simp] theorem push16_pc (v : Word) (s : State) : (push16 v s).pc = s.pc := by simp [push16]
@[simp] theorem push16_ime (v : Word) (s : State) : (push16 v s).ime = s.ime := by simp [push16]
@[simp] theorem push16_imeScheduled (v : Word) (s : State) : (push16 v s).imeScheduled = s.imeScheduled := by simp [push16]
@[simp] theorem push16_halted (v : Word) (s : State) : (push16 v s).halted = s.halted := by simp [push16]
@[simp] theorem push16_stopped (v : Word) (s : State) : (push16 v s).stopped = s.stopped := by simp [push16]
@[simp] theorem push16_fault (v : Word) (s : State) : (push16 v s).fault = s.fault := by simp [push16]
@[simp] theorem push16_sp (v : Word) (s : State) : (push16 v s).sp = s.sp - 2 := by
  simp only [push16, pushByte_sp]
  bv_omega

@[simp] theorem pop16_snd_regs (s : State) : (pop16 s).2.regs = s.regs := by simp [pop16, popByte]
@[simp] theorem pop16_snd_flags (s : State) : (pop16 s).2.flags = s.flags := by simp [pop16, popByte]
@[simp] theorem pop16_snd_pc (s : State) : (pop16 s).2.pc = s.pc := by simp [pop16, popByte]
@[simp] theorem pop16_snd_ime (s : State) : (pop16 s).2.ime = s.ime := by simp [pop16, popByte]
@[simp] theorem pop16_snd_imeScheduled (s : State) : (pop16 s).2.imeScheduled = s.imeScheduled := by simp [pop16, popByte]
@[simp] theorem pop16_snd_halted (s : State) : (pop16 s).2.halted = s.halted := by simp [pop16, popByte]
@[simp] theorem pop16_snd_stopped (s : State) : (pop16 s).2.stopped = s.stopped := by simp [pop16, popByte]
@[simp] theorem pop16_snd_fault (s : State) : (pop16 s).2.fault = s.fault := by simp [pop16, popByte]
@[simp] theorem pop16_snd_ie (s : State) : (pop16 s).2.ie = s.ie := by simp [pop16, popByte]
@[simp] theorem pop16_snd_sb (s : State) : (pop16 s).2.sb = s.sb := by simp [pop16, popByte]
@[simp] theorem pop16_snd_sc (s : State) : (pop16 s).2.sc = s.sc := by simp [pop16, popByte]
@[simp] theorem pop16_snd_wram (s : State) : (pop16 s).2.wram = s.wram := by simp [pop16, popByte]
@[simp] theorem pop16_snd_hram (s : State) : (pop16 s).2.hram = s.hram := by simp [pop16, popByte]
@[simp] theorem pop16_snd_backing (s : State) : (pop16 s).2.backing = s.backing := by simp [pop16, popByte]
@[simp] theorem pop16_snd_sp (s : State) : (pop16 s).2.sp = s.sp + 2 := by
  simp only [pop16, popByte, memRead_snd, State.withSp_sp, advance_sp]
  bv_omega

/-! ## The register accessors -/

@[simp] theorem setReg_flags (s : State) (r : Reg8) (v : Byte) : (s.setReg r v).flags = s.flags := by cases r <;> rfl
@[simp] theorem setReg_sp (s : State) (r : Reg8) (v : Byte) : (s.setReg r v).sp = s.sp := by cases r <;> rfl
@[simp] theorem setReg_pc (s : State) (r : Reg8) (v : Byte) : (s.setReg r v).pc = s.pc := by cases r <;> rfl
@[simp] theorem setReg_ime (s : State) (r : Reg8) (v : Byte) : (s.setReg r v).ime = s.ime := by cases r <;> rfl
@[simp] theorem setReg_imeScheduled (s : State) (r : Reg8) (v : Byte) : (s.setReg r v).imeScheduled = s.imeScheduled := by cases r <;> rfl
@[simp] theorem setReg_halted (s : State) (r : Reg8) (v : Byte) : (s.setReg r v).halted = s.halted := by cases r <;> rfl
@[simp] theorem setReg_stopped (s : State) (r : Reg8) (v : Byte) : (s.setReg r v).stopped = s.stopped := by cases r <;> rfl
@[simp] theorem setReg_fault (s : State) (r : Reg8) (v : Byte) : (s.setReg r v).fault = s.fault := by cases r <;> rfl
@[simp] theorem setReg_ie (s : State) (r : Reg8) (v : Byte) : (s.setReg r v).ie = s.ie := by cases r <;> rfl
@[simp] theorem setReg_intFlags (s : State) (r : Reg8) (v : Byte) : (s.setReg r v).intFlags = s.intFlags := by cases r <;> rfl
@[simp] theorem setReg_timer (s : State) (r : Reg8) (v : Byte) : (s.setReg r v).timer = s.timer := by cases r <;> rfl
@[simp] theorem setReg_sb (s : State) (r : Reg8) (v : Byte) : (s.setReg r v).sb = s.sb := by cases r <;> rfl
@[simp] theorem setReg_sc (s : State) (r : Reg8) (v : Byte) : (s.setReg r v).sc = s.sc := by cases r <;> rfl
@[simp] theorem setReg_wram (s : State) (r : Reg8) (v : Byte) : (s.setReg r v).wram = s.wram := by cases r <;> rfl
@[simp] theorem setReg_hram (s : State) (r : Reg8) (v : Byte) : (s.setReg r v).hram = s.hram := by cases r <;> rfl
@[simp] theorem setReg_backing (s : State) (r : Reg8) (v : Byte) : (s.setReg r v).backing = s.backing := by cases r <;> rfl

/-- Writing a register changes that register and no other (R20). -/
theorem reg_setReg (s : State) (r x : Reg8) (v : Byte) : (s.setReg r v).reg x = if x = r then v else s.reg x := by
  cases r <;> cases x <;> simp [State.setReg, State.reg]

@[simp] theorem reg_setReg_same (s : State) (r : Reg8) (v : Byte) : (s.setReg r v).reg r = v := by
  simp [reg_setReg]

@[simp] theorem setBc_flags (s : State) (v : Word) : (s.setBc v).flags = s.flags := rfl
@[simp] theorem setBc_sp (s : State) (v : Word) : (s.setBc v).sp = s.sp := rfl
@[simp] theorem setBc_pc (s : State) (v : Word) : (s.setBc v).pc = s.pc := rfl
@[simp] theorem setBc_ime (s : State) (v : Word) : (s.setBc v).ime = s.ime := rfl
@[simp] theorem setBc_imeScheduled (s : State) (v : Word) : (s.setBc v).imeScheduled = s.imeScheduled := rfl
@[simp] theorem setBc_halted (s : State) (v : Word) : (s.setBc v).halted = s.halted := rfl
@[simp] theorem setBc_stopped (s : State) (v : Word) : (s.setBc v).stopped = s.stopped := rfl
@[simp] theorem setBc_fault (s : State) (v : Word) : (s.setBc v).fault = s.fault := rfl
@[simp] theorem setBc_ie (s : State) (v : Word) : (s.setBc v).ie = s.ie := rfl
@[simp] theorem setBc_intFlags (s : State) (v : Word) : (s.setBc v).intFlags = s.intFlags := rfl
@[simp] theorem setBc_timer (s : State) (v : Word) : (s.setBc v).timer = s.timer := rfl
@[simp] theorem setBc_sb (s : State) (v : Word) : (s.setBc v).sb = s.sb := rfl
@[simp] theorem setBc_sc (s : State) (v : Word) : (s.setBc v).sc = s.sc := rfl
@[simp] theorem setBc_wram (s : State) (v : Word) : (s.setBc v).wram = s.wram := rfl
@[simp] theorem setBc_hram (s : State) (v : Word) : (s.setBc v).hram = s.hram := rfl
@[simp] theorem setBc_backing (s : State) (v : Word) : (s.setBc v).backing = s.backing := rfl

@[simp] theorem setDe_flags (s : State) (v : Word) : (s.setDe v).flags = s.flags := rfl
@[simp] theorem setDe_sp (s : State) (v : Word) : (s.setDe v).sp = s.sp := rfl
@[simp] theorem setDe_pc (s : State) (v : Word) : (s.setDe v).pc = s.pc := rfl
@[simp] theorem setDe_ime (s : State) (v : Word) : (s.setDe v).ime = s.ime := rfl
@[simp] theorem setDe_imeScheduled (s : State) (v : Word) : (s.setDe v).imeScheduled = s.imeScheduled := rfl
@[simp] theorem setDe_halted (s : State) (v : Word) : (s.setDe v).halted = s.halted := rfl
@[simp] theorem setDe_stopped (s : State) (v : Word) : (s.setDe v).stopped = s.stopped := rfl
@[simp] theorem setDe_fault (s : State) (v : Word) : (s.setDe v).fault = s.fault := rfl
@[simp] theorem setDe_ie (s : State) (v : Word) : (s.setDe v).ie = s.ie := rfl
@[simp] theorem setDe_intFlags (s : State) (v : Word) : (s.setDe v).intFlags = s.intFlags := rfl
@[simp] theorem setDe_timer (s : State) (v : Word) : (s.setDe v).timer = s.timer := rfl
@[simp] theorem setDe_sb (s : State) (v : Word) : (s.setDe v).sb = s.sb := rfl
@[simp] theorem setDe_sc (s : State) (v : Word) : (s.setDe v).sc = s.sc := rfl
@[simp] theorem setDe_wram (s : State) (v : Word) : (s.setDe v).wram = s.wram := rfl
@[simp] theorem setDe_hram (s : State) (v : Word) : (s.setDe v).hram = s.hram := rfl
@[simp] theorem setDe_backing (s : State) (v : Word) : (s.setDe v).backing = s.backing := rfl

@[simp] theorem setHl_flags (s : State) (v : Word) : (s.setHl v).flags = s.flags := rfl
@[simp] theorem setHl_sp (s : State) (v : Word) : (s.setHl v).sp = s.sp := rfl
@[simp] theorem setHl_pc (s : State) (v : Word) : (s.setHl v).pc = s.pc := rfl
@[simp] theorem setHl_ime (s : State) (v : Word) : (s.setHl v).ime = s.ime := rfl
@[simp] theorem setHl_imeScheduled (s : State) (v : Word) : (s.setHl v).imeScheduled = s.imeScheduled := rfl
@[simp] theorem setHl_halted (s : State) (v : Word) : (s.setHl v).halted = s.halted := rfl
@[simp] theorem setHl_stopped (s : State) (v : Word) : (s.setHl v).stopped = s.stopped := rfl
@[simp] theorem setHl_fault (s : State) (v : Word) : (s.setHl v).fault = s.fault := rfl
@[simp] theorem setHl_ie (s : State) (v : Word) : (s.setHl v).ie = s.ie := rfl
@[simp] theorem setHl_intFlags (s : State) (v : Word) : (s.setHl v).intFlags = s.intFlags := rfl
@[simp] theorem setHl_timer (s : State) (v : Word) : (s.setHl v).timer = s.timer := rfl
@[simp] theorem setHl_sb (s : State) (v : Word) : (s.setHl v).sb = s.sb := rfl
@[simp] theorem setHl_sc (s : State) (v : Word) : (s.setHl v).sc = s.sc := rfl
@[simp] theorem setHl_wram (s : State) (v : Word) : (s.setHl v).wram = s.wram := rfl
@[simp] theorem setHl_hram (s : State) (v : Word) : (s.setHl v).hram = s.hram := rfl
@[simp] theorem setHl_backing (s : State) (v : Word) : (s.setHl v).backing = s.backing := rfl

@[simp] theorem setPair_flags (s : State) (p : Pair) (v : Word) : (s.setPair p v).flags = s.flags := by cases p <;> rfl
@[simp] theorem setPair_pc (s : State) (p : Pair) (v : Word) : (s.setPair p v).pc = s.pc := by cases p <;> rfl
@[simp] theorem setPair_ime (s : State) (p : Pair) (v : Word) : (s.setPair p v).ime = s.ime := by cases p <;> rfl
@[simp] theorem setPair_imeScheduled (s : State) (p : Pair) (v : Word) : (s.setPair p v).imeScheduled = s.imeScheduled := by cases p <;> rfl
@[simp] theorem setPair_halted (s : State) (p : Pair) (v : Word) : (s.setPair p v).halted = s.halted := by cases p <;> rfl
@[simp] theorem setPair_stopped (s : State) (p : Pair) (v : Word) : (s.setPair p v).stopped = s.stopped := by cases p <;> rfl
@[simp] theorem setPair_fault (s : State) (p : Pair) (v : Word) : (s.setPair p v).fault = s.fault := by cases p <;> rfl
@[simp] theorem setPair_ie (s : State) (p : Pair) (v : Word) : (s.setPair p v).ie = s.ie := by cases p <;> rfl
@[simp] theorem setPair_intFlags (s : State) (p : Pair) (v : Word) : (s.setPair p v).intFlags = s.intFlags := by cases p <;> rfl
@[simp] theorem setPair_timer (s : State) (p : Pair) (v : Word) : (s.setPair p v).timer = s.timer := by cases p <;> rfl
@[simp] theorem setPair_sb (s : State) (p : Pair) (v : Word) : (s.setPair p v).sb = s.sb := by cases p <;> rfl
@[simp] theorem setPair_sc (s : State) (p : Pair) (v : Word) : (s.setPair p v).sc = s.sc := by cases p <;> rfl
@[simp] theorem setPair_wram (s : State) (p : Pair) (v : Word) : (s.setPair p v).wram = s.wram := by cases p <;> rfl
@[simp] theorem setPair_hram (s : State) (p : Pair) (v : Word) : (s.setPair p v).hram = s.hram := by cases p <;> rfl
@[simp] theorem setPair_backing (s : State) (p : Pair) (v : Word) : (s.setPair p v).backing = s.backing := by cases p <;> rfl

@[simp] theorem setStackPair_sp (s : State) (p : StackPair) (v : Word) : (s.setStackPair p v).sp = s.sp := by cases p <;> rfl
@[simp] theorem setStackPair_pc (s : State) (p : StackPair) (v : Word) : (s.setStackPair p v).pc = s.pc := by cases p <;> rfl
@[simp] theorem setStackPair_ime (s : State) (p : StackPair) (v : Word) : (s.setStackPair p v).ime = s.ime := by cases p <;> rfl
@[simp] theorem setStackPair_imeScheduled (s : State) (p : StackPair) (v : Word) : (s.setStackPair p v).imeScheduled = s.imeScheduled := by cases p <;> rfl
@[simp] theorem setStackPair_halted (s : State) (p : StackPair) (v : Word) : (s.setStackPair p v).halted = s.halted := by cases p <;> rfl
@[simp] theorem setStackPair_stopped (s : State) (p : StackPair) (v : Word) : (s.setStackPair p v).stopped = s.stopped := by cases p <;> rfl
@[simp] theorem setStackPair_fault (s : State) (p : StackPair) (v : Word) : (s.setStackPair p v).fault = s.fault := by cases p <;> rfl
@[simp] theorem setStackPair_ie (s : State) (p : StackPair) (v : Word) : (s.setStackPair p v).ie = s.ie := by cases p <;> rfl
@[simp] theorem setStackPair_intFlags (s : State) (p : StackPair) (v : Word) : (s.setStackPair p v).intFlags = s.intFlags := by cases p <;> rfl
@[simp] theorem setStackPair_timer (s : State) (p : StackPair) (v : Word) : (s.setStackPair p v).timer = s.timer := by cases p <;> rfl
@[simp] theorem setStackPair_sb (s : State) (p : StackPair) (v : Word) : (s.setStackPair p v).sb = s.sb := by cases p <;> rfl
@[simp] theorem setStackPair_sc (s : State) (p : StackPair) (v : Word) : (s.setStackPair p v).sc = s.sc := by cases p <;> rfl
@[simp] theorem setStackPair_wram (s : State) (p : StackPair) (v : Word) : (s.setStackPair p v).wram = s.wram := by cases p <;> rfl
@[simp] theorem setStackPair_hram (s : State) (p : StackPair) (v : Word) : (s.setStackPair p v).hram = s.hram := by cases p <;> rfl
@[simp] theorem setStackPair_backing (s : State) (p : StackPair) (v : Word) : (s.setStackPair p v).backing = s.backing := by cases p <;> rfl

/-- The bits of `{hi, lo}` (R8). -/
theorem getLsbD_ofHiLo (hi lo : Byte) (k : Nat) :
    (ofHiLo hi lo).getLsbD k = if k < 8 then lo.getLsbD k else hi.getLsbD (k - 8) := by
  have h := BitVec.getLsbD_append (x := hi) (y := lo) (i := k)
  rw [show ofHiLo hi lo = hi ++ lo from rfl]
  by_cases hk : k < 8 <;> simpa [hk] using h
@[simp] theorem hiByte_ofHiLo (hi lo : Byte) : hiByte (ofHiLo hi lo) = hi := by
  apply BitVec.eq_of_getLsbD_eq
  intro k hk
  simp [hiByte, -BitVec.getLsbD_eq_getElem, BitVec.getLsbD_extractLsb', hk, getLsbD_ofHiLo]
@[simp] theorem loByte_ofHiLo (hi lo : Byte) : loByte (ofHiLo hi lo) = lo := by
  apply BitVec.eq_of_getLsbD_eq
  intro k hk
  simp [loByte, -BitVec.getLsbD_eq_getElem,BitVec.getLsbD_extractLsb', hk, getLsbD_ofHiLo]
@[simp] theorem ofHiLo_hiByte_loByte (v : Word) : ofHiLo (hiByte v) (loByte v) = v := by
  apply BitVec.eq_of_getLsbD_eq
  intro k hk
  rw [getLsbD_ofHiLo]
  simp only [hiByte, loByte, BitVec.getLsbD_extractLsb']
  split
  · simp [*]
  · simp [show k - 8 < 8 by omega, show 8 + (k - 8) = k by omega]

/-- The views read back what was written (R21), AF with its low nibble 0 (R22). -/
@[simp] theorem bc_setBc (s : State) (v : Word) : (s.setBc v).bc = v := by simp [State.setBc, State.bc]
@[simp] theorem de_setDe (s : State) (v : Word) : (s.setDe v).de = v := by simp [State.setDe, State.de]
@[simp] theorem hl_setHl (s : State) (v : Word) : (s.setHl v).hl = v := by simp [State.setHl, State.hl]

/-- Every register and view is read from the registers alone. -/
theorem reg_of_regs {s t : State} (h : t.regs = s.regs) (r : Reg8) : t.reg r = s.reg r := by
  cases r <;> simp [State.reg, h]
theorem hl_of_regs {s t : State} (h : t.regs = s.regs) : t.hl = s.hl := by simp [State.hl, h]
theorem bc_of_regs {s t : State} (h : t.regs = s.regs) : t.bc = s.bc := by simp [State.bc, h]
theorem de_of_regs {s t : State} (h : t.regs = s.regs) : t.de = s.de := by simp [State.de, h]

@[simp] theorem advance_reg (n : Nat) (s : State) (r : Reg8) : (advance n s).reg r = s.reg r := reg_of_regs (by simp) r
@[simp] theorem advance_hl (n : Nat) (s : State) : (advance n s).hl = s.hl := hl_of_regs (by simp)
@[simp] theorem memWrite_hl (a : Word) (v : Byte) (s : State) : (memWrite a v s).hl = s.hl := hl_of_regs (by simp)
@[simp] theorem busWrite_reg (a : Word) (v : Byte) (s : State) (r : Reg8) : (busWrite a v s).reg r = s.reg r := reg_of_regs (by simp) r

end Sys2Proof.Machine
end

