-- ==== Sys2Proof/Laws/Bus.lean ====
section
/-! SUPPORT. The laws of the bus: what a read sees after a write, that ticks and bus accesses do not look at
the CPU registers, and that every memory operation keeps the canonical form. -/

namespace Sys2Proof.Machine

/-! ## Ticks and bus accesses do not depend on the CPU registers -/

theorem timaIncrement_withRegs (s : State) (v : Regs) : timaIncrement (s.withRegs v) = (timaIncrement s).withRegs v := by
  by_cases h : s.timer.tima = 0xFF
  · rw [timaIncrement_overflow h, timaIncrement_overflow (s := s.withRegs v) h]; rfl
  · rw [timaIncrement_count h, timaIncrement_count (s := s.withRegs v) h]; rfl
theorem moveDiv_withRegs (d : BitVec 16) (s : State) (v : Regs) : moveDiv d (s.withRegs v) = (moveDiv d s).withRegs v := by
  by_cases h : divFalls d s = true
  · rw [moveDiv_falling h, moveDiv_falling (s := s.withRegs v) h, ← timaIncrement_withRegs]; rfl
  · rw [moveDiv_steady h, moveDiv_steady (s := s.withRegs v) h]; rfl
theorem advance_withRegs (n : Nat) (s : State) (v : Regs) : advance n (s.withRegs v) = (advance n s).withRegs v := by
  induction n generalizing s with
  | zero => rfl
  | succ n ih => simp [advance_succ, timerTick, moveDiv_withRegs, ih]
theorem busWrite_withRegs (a : Word) (b : Byte) (s : State) (v : Regs) :
    busWrite a b (s.withRegs v) = (busWrite a b s).withRegs v := by
  unfold busWrite
  split <;> (try rfl)
  rename_i r _
  cases r <;> first | rfl | simp [ioWrite, writeDiv, moveDiv_withRegs]
theorem busRead_withRegs (a : Word) (s : State) (v : Regs) : busRead a (s.withRegs v) = busRead a s := by
  unfold busRead
  split <;> rfl

theorem timaIncrement_withFlags (s : State) (v : Flags) : timaIncrement (s.withFlags v) = (timaIncrement s).withFlags v := by
  by_cases h : s.timer.tima = 0xFF
  · rw [timaIncrement_overflow h, timaIncrement_overflow (s := s.withFlags v) h]; rfl
  · rw [timaIncrement_count h, timaIncrement_count (s := s.withFlags v) h]; rfl
theorem moveDiv_withFlags (d : BitVec 16) (s : State) (v : Flags) : moveDiv d (s.withFlags v) = (moveDiv d s).withFlags v := by
  by_cases h : divFalls d s = true
  · rw [moveDiv_falling h, moveDiv_falling (s := s.withFlags v) h, ← timaIncrement_withFlags]; rfl
  · rw [moveDiv_steady h, moveDiv_steady (s := s.withFlags v) h]; rfl
theorem advance_withFlags (n : Nat) (s : State) (v : Flags) : advance n (s.withFlags v) = (advance n s).withFlags v := by
  induction n generalizing s with
  | zero => rfl
  | succ n ih => simp [advance_succ, timerTick, moveDiv_withFlags, ih]
theorem busWrite_withFlags (a : Word) (b : Byte) (s : State) (v : Flags) :
    busWrite a b (s.withFlags v) = (busWrite a b s).withFlags v := by
  unfold busWrite
  split <;> (try rfl)
  rename_i r _
  cases r <;> first | rfl | simp [ioWrite, writeDiv, moveDiv_withFlags]
theorem busRead_withFlags (a : Word) (s : State) (v : Flags) : busRead a (s.withFlags v) = busRead a s := by
  unfold busRead
  split <;> rfl

theorem timaIncrement_withSp (s : State) (v : Word) : timaIncrement (s.withSp v) = (timaIncrement s).withSp v := by
  by_cases h : s.timer.tima = 0xFF
  · rw [timaIncrement_overflow h, timaIncrement_overflow (s := s.withSp v) h]; rfl
  · rw [timaIncrement_count h, timaIncrement_count (s := s.withSp v) h]; rfl
theorem moveDiv_withSp (d : BitVec 16) (s : State) (v : Word) : moveDiv d (s.withSp v) = (moveDiv d s).withSp v := by
  by_cases h : divFalls d s = true
  · rw [moveDiv_falling h, moveDiv_falling (s := s.withSp v) h, ← timaIncrement_withSp]; rfl
  · rw [moveDiv_steady h, moveDiv_steady (s := s.withSp v) h]; rfl
theorem advance_withSp (n : Nat) (s : State) (v : Word) : advance n (s.withSp v) = (advance n s).withSp v := by
  induction n generalizing s with
  | zero => rfl
  | succ n ih => simp [advance_succ, timerTick, moveDiv_withSp, ih]
theorem busWrite_withSp (a : Word) (b : Byte) (s : State) (v : Word) :
    busWrite a b (s.withSp v) = (busWrite a b s).withSp v := by
  unfold busWrite
  split <;> (try rfl)
  rename_i r _
  cases r <;> first | rfl | simp [ioWrite, writeDiv, moveDiv_withSp]
theorem busRead_withSp (a : Word) (s : State) (v : Word) : busRead a (s.withSp v) = busRead a s := by
  unfold busRead
  split <;> rfl

theorem timaIncrement_withPc (s : State) (v : Word) : timaIncrement (s.withPc v) = (timaIncrement s).withPc v := by
  by_cases h : s.timer.tima = 0xFF
  · rw [timaIncrement_overflow h, timaIncrement_overflow (s := s.withPc v) h]; rfl
  · rw [timaIncrement_count h, timaIncrement_count (s := s.withPc v) h]; rfl
theorem moveDiv_withPc (d : BitVec 16) (s : State) (v : Word) : moveDiv d (s.withPc v) = (moveDiv d s).withPc v := by
  by_cases h : divFalls d s = true
  · rw [moveDiv_falling h, moveDiv_falling (s := s.withPc v) h, ← timaIncrement_withPc]; rfl
  · rw [moveDiv_steady h, moveDiv_steady (s := s.withPc v) h]; rfl
theorem advance_withPc (n : Nat) (s : State) (v : Word) : advance n (s.withPc v) = (advance n s).withPc v := by
  induction n generalizing s with
  | zero => rfl
  | succ n ih => simp [advance_succ, timerTick, moveDiv_withPc, ih]
theorem busWrite_withPc (a : Word) (b : Byte) (s : State) (v : Word) :
    busWrite a b (s.withPc v) = (busWrite a b s).withPc v := by
  unfold busWrite
  split <;> (try rfl)
  rename_i r _
  cases r <;> first | rfl | simp [ioWrite, writeDiv, moveDiv_withPc]
theorem busRead_withPc (a : Word) (s : State) (v : Word) : busRead a (s.withPc v) = busRead a s := by
  unfold busRead
  split <;> rfl

theorem timaIncrement_withIme (s : State) (v : Bool) : timaIncrement (s.withIme v) = (timaIncrement s).withIme v := by
  by_cases h : s.timer.tima = 0xFF
  · rw [timaIncrement_overflow h, timaIncrement_overflow (s := s.withIme v) h]; rfl
  · rw [timaIncrement_count h, timaIncrement_count (s := s.withIme v) h]; rfl
theorem moveDiv_withIme (d : BitVec 16) (s : State) (v : Bool) : moveDiv d (s.withIme v) = (moveDiv d s).withIme v := by
  by_cases h : divFalls d s = true
  · rw [moveDiv_falling h, moveDiv_falling (s := s.withIme v) h, ← timaIncrement_withIme]; rfl
  · rw [moveDiv_steady h, moveDiv_steady (s := s.withIme v) h]; rfl
theorem advance_withIme (n : Nat) (s : State) (v : Bool) : advance n (s.withIme v) = (advance n s).withIme v := by
  induction n generalizing s with
  | zero => rfl
  | succ n ih => simp [advance_succ, timerTick, moveDiv_withIme, ih]
theorem busWrite_withIme (a : Word) (b : Byte) (s : State) (v : Bool) :
    busWrite a b (s.withIme v) = (busWrite a b s).withIme v := by
  unfold busWrite
  split <;> (try rfl)
  rename_i r _
  cases r <;> first | rfl | simp [ioWrite, writeDiv, moveDiv_withIme]
theorem busRead_withIme (a : Word) (s : State) (v : Bool) : busRead a (s.withIme v) = busRead a s := by
  unfold busRead
  split <;> rfl

theorem timaIncrement_withImeScheduled (s : State) (v : Bool) : timaIncrement (s.withImeScheduled v) = (timaIncrement s).withImeScheduled v := by
  by_cases h : s.timer.tima = 0xFF
  · rw [timaIncrement_overflow h, timaIncrement_overflow (s := s.withImeScheduled v) h]; rfl
  · rw [timaIncrement_count h, timaIncrement_count (s := s.withImeScheduled v) h]; rfl
theorem moveDiv_withImeScheduled (d : BitVec 16) (s : State) (v : Bool) : moveDiv d (s.withImeScheduled v) = (moveDiv d s).withImeScheduled v := by
  by_cases h : divFalls d s = true
  · rw [moveDiv_falling h, moveDiv_falling (s := s.withImeScheduled v) h, ← timaIncrement_withImeScheduled]; rfl
  · rw [moveDiv_steady h, moveDiv_steady (s := s.withImeScheduled v) h]; rfl
theorem advance_withImeScheduled (n : Nat) (s : State) (v : Bool) : advance n (s.withImeScheduled v) = (advance n s).withImeScheduled v := by
  induction n generalizing s with
  | zero => rfl
  | succ n ih => simp [advance_succ, timerTick, moveDiv_withImeScheduled, ih]
theorem busWrite_withImeScheduled (a : Word) (b : Byte) (s : State) (v : Bool) :
    busWrite a b (s.withImeScheduled v) = (busWrite a b s).withImeScheduled v := by
  unfold busWrite
  split <;> (try rfl)
  rename_i r _
  cases r <;> first | rfl | simp [ioWrite, writeDiv, moveDiv_withImeScheduled]
theorem busRead_withImeScheduled (a : Word) (s : State) (v : Bool) : busRead a (s.withImeScheduled v) = busRead a s := by
  unfold busRead
  split <;> rfl

theorem timaIncrement_withHalted (s : State) (v : Bool) : timaIncrement (s.withHalted v) = (timaIncrement s).withHalted v := by
  by_cases h : s.timer.tima = 0xFF
  · rw [timaIncrement_overflow h, timaIncrement_overflow (s := s.withHalted v) h]; rfl
  · rw [timaIncrement_count h, timaIncrement_count (s := s.withHalted v) h]; rfl
theorem moveDiv_withHalted (d : BitVec 16) (s : State) (v : Bool) : moveDiv d (s.withHalted v) = (moveDiv d s).withHalted v := by
  by_cases h : divFalls d s = true
  · rw [moveDiv_falling h, moveDiv_falling (s := s.withHalted v) h, ← timaIncrement_withHalted]; rfl
  · rw [moveDiv_steady h, moveDiv_steady (s := s.withHalted v) h]; rfl
theorem advance_withHalted (n : Nat) (s : State) (v : Bool) : advance n (s.withHalted v) = (advance n s).withHalted v := by
  induction n generalizing s with
  | zero => rfl
  | succ n ih => simp [advance_succ, timerTick, moveDiv_withHalted, ih]
theorem busWrite_withHalted (a : Word) (b : Byte) (s : State) (v : Bool) :
    busWrite a b (s.withHalted v) = (busWrite a b s).withHalted v := by
  unfold busWrite
  split <;> (try rfl)
  rename_i r _
  cases r <;> first | rfl | simp [ioWrite, writeDiv, moveDiv_withHalted]
theorem busRead_withHalted (a : Word) (s : State) (v : Bool) : busRead a (s.withHalted v) = busRead a s := by
  unfold busRead
  split <;> rfl

theorem timaIncrement_withStopped (s : State) (v : Bool) : timaIncrement (s.withStopped v) = (timaIncrement s).withStopped v := by
  by_cases h : s.timer.tima = 0xFF
  · rw [timaIncrement_overflow h, timaIncrement_overflow (s := s.withStopped v) h]; rfl
  · rw [timaIncrement_count h, timaIncrement_count (s := s.withStopped v) h]; rfl
theorem moveDiv_withStopped (d : BitVec 16) (s : State) (v : Bool) : moveDiv d (s.withStopped v) = (moveDiv d s).withStopped v := by
  by_cases h : divFalls d s = true
  · rw [moveDiv_falling h, moveDiv_falling (s := s.withStopped v) h, ← timaIncrement_withStopped]; rfl
  · rw [moveDiv_steady h, moveDiv_steady (s := s.withStopped v) h]; rfl
theorem advance_withStopped (n : Nat) (s : State) (v : Bool) : advance n (s.withStopped v) = (advance n s).withStopped v := by
  induction n generalizing s with
  | zero => rfl
  | succ n ih => simp [advance_succ, timerTick, moveDiv_withStopped, ih]
theorem busWrite_withStopped (a : Word) (b : Byte) (s : State) (v : Bool) :
    busWrite a b (s.withStopped v) = (busWrite a b s).withStopped v := by
  unfold busWrite
  split <;> (try rfl)
  rename_i r _
  cases r <;> first | rfl | simp [ioWrite, writeDiv, moveDiv_withStopped]
theorem busRead_withStopped (a : Word) (s : State) (v : Bool) : busRead a (s.withStopped v) = busRead a s := by
  unfold busRead
  split <;> rfl

theorem timaIncrement_withFault (s : State) (v : Option FaultReport) : timaIncrement (s.withFault v) = (timaIncrement s).withFault v := by
  by_cases h : s.timer.tima = 0xFF
  · rw [timaIncrement_overflow h, timaIncrement_overflow (s := s.withFault v) h]; rfl
  · rw [timaIncrement_count h, timaIncrement_count (s := s.withFault v) h]; rfl
theorem moveDiv_withFault (d : BitVec 16) (s : State) (v : Option FaultReport) : moveDiv d (s.withFault v) = (moveDiv d s).withFault v := by
  by_cases h : divFalls d s = true
  · rw [moveDiv_falling h, moveDiv_falling (s := s.withFault v) h, ← timaIncrement_withFault]; rfl
  · rw [moveDiv_steady h, moveDiv_steady (s := s.withFault v) h]; rfl
theorem advance_withFault (n : Nat) (s : State) (v : Option FaultReport) : advance n (s.withFault v) = (advance n s).withFault v := by
  induction n generalizing s with
  | zero => rfl
  | succ n ih => simp [advance_succ, timerTick, moveDiv_withFault, ih]
theorem busWrite_withFault (a : Word) (b : Byte) (s : State) (v : Option FaultReport) :
    busWrite a b (s.withFault v) = (busWrite a b s).withFault v := by
  unfold busWrite
  split <;> (try rfl)
  rename_i r _
  cases r <;> first | rfl | simp [ioWrite, writeDiv, moveDiv_withFault]
theorem busRead_withFault (a : Word) (s : State) (v : Option FaultReport) : busRead a (s.withFault v) = busRead a s := by
  unfold busRead
  split <;> rfl

/-! ## The map -/

/-- An index of the map lies in its array (R64, R65, R68). -/
theorem regionOf_backing_lt {a : Word} {k : Nat} (h : regionOf a = .backing k) : k < backingSize := by
  have := a.isLt
  unfold regionOf at h
  simp only at h
  split_ifs at h <;> simp_all [backingSize]
theorem regionOf_wram_lt {a : Word} {k : Nat} (h : regionOf a = .wram k) : k < wramSize := by
  have := a.isLt
  unfold regionOf at h
  simp only at h
  split_ifs at h <;> simp_all [wramSize] <;> omega
theorem regionOf_hram_lt {a : Word} {k : Nat} (h : regionOf a = .hram k) : k < hramSize - 1 := by
  have := a.isLt
  unfold regionOf at h
  simp only at h
  split_ifs at h
  simp_all [hramSize]
  omega

theorem isStorage_iff {a : Word} : isStorage a = true ↔
    (∃ k, regionOf a = .backing k) ∨ (∃ k, regionOf a = .wram k) ∨ (∃ k, regionOf a = .hram k) := by
  unfold isStorage
  cases regionOf a <;> simp

/-- Ticks do not change storage. -/
theorem busRead_advance_storage {a : Word} (h : isStorage a = true) (n : Nat) (s : State) :
    busRead a (advance n s) = busRead a s := by
  rcases isStorage_iff.mp h with ⟨k, hk⟩ | ⟨k, hk⟩ | ⟨k, hk⟩ <;> simp [busRead, hk]

/-- A byte stored to storage reads back (R78). -/
theorem busRead_busWrite_same {a : Word} {v : Byte} {s : State} (hw : s.memWf = true) (h : isStorage a = true) :
    busRead a (busWrite a v s) = v := by
  simp only [State.memWf, Bool.and_eq_true, Memory.wf] at hw
  rcases isStorage_iff.mp h with ⟨k, hk⟩ | ⟨k, hk⟩ | ⟨k, hk⟩ <;> simp only [busRead, busWrite, hk]
  · exact Memory.read_write_same hw.2
  · exact Memory.read_write_same hw.1.1
  · exact Memory.read_write_same hw.1.2

/-- A write leaves storage at every other place alone. -/
theorem busRead_busWrite_ne {a b : Word} {v : Byte} {s : State} (hb : isStorage b = true) (h : ¬ samePlace b a) :
    busRead b (busWrite a v s) = busRead b s := by
  unfold samePlace at h
  unfold busWrite
  rcases isStorage_iff.mp hb with ⟨k, hk⟩ | ⟨k, hk⟩ | ⟨k, hk⟩ <;> rw [hk] at h <;> simp only [busRead, hk] <;>
    split <;> rename_i hr <;> rw [hr] at h <;> simp
  all_goals exact Memory.read_write_ne (fun e => h (by rw [e]))

/-! ## The canonical form -/

theorem memWf_of_arrays {s t : State} (hw : t.wram = s.wram) (hh : t.hram = s.hram) (hb : t.backing = s.backing) :
    t.memWf = s.memWf := by simp [State.memWf, hw, hh, hb]

@[simp] theorem advance_memWf (n : Nat) (s : State) : (advance n s).memWf = s.memWf :=
  memWf_of_arrays (by simp) (by simp) (by simp)

/-- A bus write keeps the canonical form. -/
theorem busWrite_memWf {a : Word} {v : Byte} {s : State} (h : s.memWf = true) : (busWrite a v s).memWf = true := by
  unfold busWrite
  split
  · rename_i k hk
    simp only [State.memWf, Bool.and_eq_true] at h ⊢
    exact ⟨h.1, Memory.write_wf h.2 (regionOf_backing_lt hk)⟩
  · exact h
  · rename_i k hk
    simp only [State.memWf, Bool.and_eq_true] at h ⊢
    exact ⟨⟨Memory.write_wf h.1.1 (regionOf_wram_lt hk), h.1.2⟩, h.2⟩
  · rw [memWf_of_arrays (ioWrite_wram _ _ _) (ioWrite_hram _ _ _) (ioWrite_backing _ _ _), h]
  · rename_i k hk
    simp only [State.memWf, Bool.and_eq_true] at h ⊢
    exact ⟨⟨h.1.1, Memory.write_wf h.1.2 (by have := regionOf_hram_lt hk; unfold hramSize at *; omega)⟩, h.2⟩
  · exact h

theorem memWrite_memWf {a : Word} {v : Byte} {s : State} (h : s.memWf = true) : (memWrite a v s).memWf = true :=
  busWrite_memWf (by simpa using h)

theorem pushByte_memWf {v : Byte} {s : State} (h : s.memWf = true) : (pushByte v s).memWf = true :=
  memWrite_memWf h

theorem push16_memWf {v : Word} {s : State} (h : s.memWf = true) : (push16 v s).memWf = true :=
  pushByte_memWf (pushByte_memWf h)

/-- Reset's memory is canonical. -/
theorem reset_memWf : State.reset.memWf = true := rfl

/-! ## The stack in one expression each -/

/-- `Push16(v)` (R73) writes the high byte at SP-1, then the low byte at SP-2. -/
theorem push16_eq (v : Word) (s : State) : push16 v s = afterPush v s := by
  have h2 : s.sp - 1 - 1 = s.sp - 2 := by bv_omega
  simp only [push16, pushByte, memWrite_eq, afterPush, State.withSp_sp, advance_withSp, busWrite_withSp, h2]
  rfl

/-- `Pop16()` (R73) reads the low byte at SP, then the high byte at SP+1. -/
theorem pop16_eq (s : State) : pop16 s = (poppedWord s, (advance 2 s).withSp (s.sp + 2)) := by
  have h2 : s.sp + 1 + 1 = s.sp + 2 := by bv_omega
  simp only [pop16, popByte, memRead, tick_eq, poppedWord, State.withSp_sp, advance_withSp, busRead_withSp,
    advance_sp, advance_advance, h2]
  rfl

end Sys2Proof.Machine
end

