-- ==== Sys2Proof/Laws/Encoding.lean ====
section
/-! SUPPORT. `Form` and `Instr` are the same set, and the number of bytes a decode takes. -/

namespace Sys2Proof

/-- The row of an instruction's form is the instruction. -/
theorem Instr.form_instr (i : Instr) : i.form.instr = i := by
  cases i <;> rfl

/-- The form of a form's row is the form. -/
theorem Form.instr_form (form : Form) : form.instr.form = form := by
  cases form <;> try rfl
  case ldRegReg dst src => cases dst <;> cases src <;> rfl
  case ldRegImm dst n8 => cases dst <;> rfl
  case ldRegAtHl dst => cases dst <;> rfl
  case ldAtHlReg src => cases src <;> rfl
  case ldAAtPtr p => cases p <;> rfl
  case ldAtPtrA p => cases p <;> rfl
  case ldPairImm rr n16 => cases rr <;> rfl
  case push rr => cases rr <;> rfl
  case pop rr => cases rr <;> rfl
  case alu op src =>
    cases src with
    | reg r => cases op <;> cases r <;> rfl
    | atHl => cases op <;> rfl
    | imm n8 => cases op <;> rfl
  case inc x => rcases x with r | _ <;> (try cases r) <;> rfl
  case dec x => rcases x with r | _ <;> (try cases r) <;> rfl
  case addHl rr => cases rr <;> rfl
  case incPair rr => cases rr <;> rfl
  case decPair rr => cases rr <;> rfl
  case jpCc cc a16 => cases cc <;> rfl
  case jrCc cc e8 => cases cc <;> rfl
  case callCc cc a16 => cases cc <;> rfl
  case retCc cc => cases cc <;> rfl
  case rst y => fin_cases y <;> rfl
  case illegal op => cases op <;> rfl
  case rot op x => rcases x with r | _ <;> (try cases r) <;> cases op <;> rfl
  case bit b x => rcases x with r | _ <;> (try cases r) <;> fin_cases b <;> rfl
  case res b x => rcases x with r | _ <;> (try cases r) <;> fin_cases b <;> rfl
  case set b x => rcases x with r | _ <;> (try cases r) <;> fin_cases b <;> rfl

/-- An opcode is followed by at most two bytes. -/
theorem operandCount_le (op : Byte) : operandCount op ≤ 2 := by
  unfold operandCount
  split <;> omega

/-- The decoder never rejects a list that holds the opcode's operand bytes, and takes just those. -/
theorem decode_ok {op : Byte} {rest : List Byte} (h : operandCount op ≤ rest.length) :
    ∃ i, decode (op :: rest) = .ok (i, rest.drop (operandCount op)) := by
  have hle := operandCount_le op
  generalize hk : operandCount op = k at h hle
  match k, rest, h, hle with
  | 0, _, _, _ => simp [decode, hk]
  | 1, _ :: _, _, _ => simp [decode, hk]
  | 2, _ :: _ :: _, _, _ => simp [decode, hk]

end Sys2Proof
end

