-- ==== Sys2Proof/Laws/Exec.lean ====
section
/-! SUPPORT. The one inversion of `exec`: every instruction completes, with the shared operation of its form.
Proofs about instructions go through `exec_eq` and split `Form`, not the 512 rows. -/

namespace Sys2Proof.Machine

/-- The shared operation of a form. -/
def execForm : Form → State → State
  | .nop, s => nopOp s
  | .halt, s => haltOp s
  | .stop, s => stopOp s
  | .di, s => diOp s
  | .ei, s => eiOp s
  | .daa, s => daaOp s
  | .cpl, s => cplOp s
  | .scf, s => scfOp s
  | .ccf, s => ccfOp s
  | .rlca, s => rlcaOp s
  | .rrca, s => rrcaOp s
  | .rla, s => rlaOp s
  | .rra, s => rraOp s
  | .ldRegReg dst src, s => ldRegRegOp dst src s
  | .ldRegImm dst n8, s => ldRegImmOp dst n8 s
  | .ldRegAtHl dst, s => ldRegAtHlOp dst s
  | .ldAtHlReg src, s => ldAtHlRegOp src s
  | .ldAtHlImm n8, s => ldAtHlImmOp n8 s
  | .ldAAtPtr p, s => ldAAtPtrOp p s
  | .ldAtPtrA p, s => ldAtPtrAOp p s
  | .ldAAtA16 a16, s => ldAAtA16Op a16 s
  | .ldAtA16A a16, s => ldAtA16AOp a16 s
  | .ldhAAtC, s => ldhAAtCOp s
  | .ldhAtCA, s => ldhAtCAOp s
  | .ldhAAtA8 a8, s => ldhAAtA8Op a8 s
  | .ldhAtA8A a8, s => ldhAtA8AOp a8 s
  | .ldAAtHlInc, s => ldAAtHlIncOp s
  | .ldAAtHlDec, s => ldAAtHlDecOp s
  | .ldAtHlIncA, s => ldAtHlIncAOp s
  | .ldAtHlDecA, s => ldAtHlDecAOp s
  | .ldPairImm rr n16, s => ldPairImmOp rr n16 s
  | .ldAtA16Sp a16, s => ldAtA16SpOp a16 s
  | .ldSpHl, s => ldSpHlOp s
  | .ldHlSpE8 e8, s => ldHlSpE8Op e8 s
  | .push rr, s => pushOp rr s
  | .pop rr, s => popOp rr s
  | .alu op src, s => aluOp op src s
  | .inc x, s => incOp x s
  | .dec x, s => decOp x s
  | .addHl rr, s => addHlOp rr s
  | .incPair rr, s => incPairOp rr s
  | .decPair rr, s => decPairOp rr s
  | .addSpE8 e8, s => addSpE8Op e8 s
  | .jp a16, s => jpOp a16 s
  | .jpCc cc a16, s => jpCcOp cc a16 s
  | .jpHl, s => jpHlOp s
  | .jr e8, s => jrOp e8 s
  | .jrCc cc e8, s => jrCcOp cc e8 s
  | .call a16, s => callOp a16 s
  | .callCc cc a16, s => callCcOp cc a16 s
  | .ret, s => retOp s
  | .retCc cc, s => retCcOp cc s
  | .reti, s => retiOp s
  | .rst y, s => rstOp y s
  | .prefixCb sub, s => prefixCbOp sub s
  | .illegal op, s => illegalOp op s
  | .rot op x, s => rotOp op x s
  | .bit b x, s => bitOp b x s
  | .res b x, s => resOp b x s
  | .set b x, s => setOp b x s

/-- Executing PREFIX CB is executing the CB row its sub-opcode names (R285). -/
theorem execForm_resolve (form : Form) (s : State) : execForm (resolvePrefix form) s = execForm form s := by
  cases form <;> try rfl
  rename_i sub
  change execForm (decodeCb sub) s = prefixCbOp sub s
  simp only [decodeCb, prefixCbOp]
  generalize (sub.extractLsb' 6 2).toNat = cls
  match cls with
  | 0 => rfl
  | 1 => rfl
  | 2 => rfl
  | _ + 3 => rfl

/-- `exec` completes on every instruction, with the operation of its form. -/
theorem exec_eq (i : Instr) (s : State) : exec i s = .next (execForm i.form s) := by
  cases i <;> rfl

/-- The same, with PREFIX CB resolved. -/
theorem exec_op (i : Instr) (s : State) : exec i s = .next (execForm (opOf i) s) := by
  rw [exec_eq, opOf, execForm_resolve]

/-- The words of PREFIX CB are those of the CB row (R285). -/
theorem decodeCb_bytes (sub : Byte) : (decodeCb sub).bytes = [0xCB, sub] := by
  revert sub; decide

/-- The words of an instruction are those of its form, PREFIX CB resolved. -/
theorem encode_op (i : Instr) : encode i = (opOf i).bytes := by
  unfold encode opOf
  cases h : i.form <;> try rfl
  rename_i sub
  exact (decodeCb_bytes sub).symm

/-- What an instruction runs as, read off its form. -/
theorem runs_iff (i : Instr) (words : List Byte) (s t : State) :
    Runs i words s t ↔ (opOf i).bytes = words ∧ execForm (opOf i) s = t := by
  simp [Runs, exec_op, encode_op]

end Sys2Proof.Machine
end

