-- ==== Sys2Proof/Laws/Step.lean ====
section
/-! SUPPORT. The one inversion of `step`: what the fetch reads, and the four ways a step goes. -/

namespace Sys2Proof.Machine

/-- The bytes a fetch of `n` bytes reads. -/
def fetchedList : Nat → State → List Byte
  | 0, _ => []
  | n + 1, s => busRead s.pc (advance 1 s) :: fetchedList n (afterFetch 1 s)

theorem afterFetch_zero (s : State) : afterFetch 0 s = s := by
  simp [afterFetch, State.withPc]

/-- Fetching `n` bytes and then `m` is fetching `n + m`. -/
theorem afterFetch_afterFetch (m n : Nat) (s : State) : afterFetch m (afterFetch n s) = afterFetch (n + m) s := by
  simp only [afterFetch, advance_withPc, advance_advance, State.withPc_pc]
  have : s.pc + BitVec.ofNat 16 n + BitVec.ofNat 16 m = s.pc + BitVec.ofNat 16 (n + m) := by
    rw [BitVec.add_assoc, ← BitVec.ofNat_add]
  rw [this]; rfl

theorem fetchByte_eq (s : State) : fetchByte s = (busRead s.pc (advance 1 s), afterFetch 1 s) := by
  simp [fetchByte, memRead, afterFetch]

theorem fetchBytes_eq (n : Nat) (s : State) : fetchBytes n s = (fetchedList n s, afterFetch n s) := by
  induction n generalizing s with
  | zero => simp [fetchBytes, fetchedList, afterFetch_zero]
  | succ n ih => simp [fetchBytes, fetchByte_eq, ih, fetchedList, afterFetch_afterFetch, Nat.add_comm]

/-- How many bytes the instruction at PC has. -/
def fetchLength (s : State) : Nat := operandCount (busRead s.pc (advance 1 s)) + 1

/-- The fetch reads the instruction's bytes, a machine cycle each, and leaves PC past them (R90, R91). -/
theorem fetchInstr_eq (s : State) : fetchInstr s = (fetchedList (fetchLength s) s, afterFetch (fetchLength s) s) := by
  have h := Nat.add_comm 1 (operandCount (busRead s.pc (advance 1 s)))
  simp [fetchInstr, fetchByte_eq, fetchBytes_eq, fetchLength, fetchedList, afterFetch_afterFetch, h]

@[simp] theorem fetchedList_length (n : Nat) (s : State) : (fetchedList n s).length = n := by
  induction n generalizing s with
  | zero => rfl
  | succ n ih => simp [fetchedList, ih]

/-- The decoder accepts what a fetch reads, and takes all of it. -/
theorem decode_fetched (s : State) : ∃ i, decode (fetchedList (fetchLength s) s) = .ok (i, []) := by
  obtain ⟨i, hi⟩ := decode_ok (op := busRead s.pc (advance 1 s))
    (rest := fetchedList (operandCount (busRead s.pc (advance 1 s))) (afterFetch 1 s)) (by simp)
  exact ⟨i, by rw [fetchLength, fetchedList, hi]; simp⟩

/-- Everything a step can do (R300 to R303). -/
theorem step_cases (s : State) :
    (s.stopped = true ∧ step s = .next s) ∨
    (s.stopped = false ∧ s.halted = true ∧ step s = .next (interruptPhase (advance 1 s))) ∨
    (s.fetches ∧ ∃ i, decode (fetchedList (fetchLength s) s) = .ok (i, []) ∧
      step s = .next (endStep (execForm (opOf i) (afterFetch (fetchLength s) s)))) := by
  by_cases hs : s.stopped = true
  · exact .inl ⟨hs, by simp [step, hs]⟩
  · have hs' : s.stopped = false := by simpa using hs
    by_cases hh : s.halted = true
    · exact .inr (.inl ⟨hs', hh, by simp [step, hs', hh]⟩)
    · have hh' : s.halted = false := by simpa using hh
      obtain ⟨i, hi⟩ := decode_fetched s
      refine .inr (.inr ⟨⟨hs', hh'⟩, i, hi, ?_⟩)
      simp [step, hs', hh', runFetched, fetchInstr_eq, hi, exec_op]

end Sys2Proof.Machine
end

