-- ==== Sys2Proof/Laws/Instr.lean ====
section
/-! SUPPORT. What an instruction does to memory, to the timer and to IF, said once: it is a list of machine
cycles after the fetch, some of which store a byte, followed by updates of the CPU's own registers. -/

namespace Sys2Proof.Machine

/-! ## Operands -/

theorem readLoc_eq (x : Loc8) (s : State) : readLoc x s = operandAt x s := by cases x <;> rfl
theorem readSrc_eq (src : AluSrc) (s : State) : readSrc src s = operandOf src s := by cases src <;> rfl
theorem writeLoc_eq (x : Loc8) (v : Byte) (s : State) : writeLoc x v s = storedAt x v s := by cases x <;> rfl

@[simp] theorem operandAt_regs (x : Loc8) (s : State) : (operandAt x s).2.regs = s.regs := by
  cases x <;> simp [operandAt]
@[simp] theorem operandOf_regs (src : AluSrc) (s : State) : (operandOf src s).2.regs = s.regs := by
  cases src <;> simp [operandOf]
@[simp] theorem operandAt_flags (x : Loc8) (s : State) : (operandAt x s).2.flags = s.flags := by
  cases x <;> simp [operandAt]
@[simp] theorem operandOf_flags (src : AluSrc) (s : State) : (operandOf src s).2.flags = s.flags := by
  cases src <;> simp [operandOf]
@[simp] theorem operandAt_sp (x : Loc8) (s : State) : (operandAt x s).2.sp = s.sp := by
  cases x <;> simp [operandAt]
@[simp] theorem operandOf_sp (src : AluSrc) (s : State) : (operandOf src s).2.sp = s.sp := by
  cases src <;> simp [operandOf]
@[simp] theorem operandAt_pc (x : Loc8) (s : State) : (operandAt x s).2.pc = s.pc := by
  cases x <;> simp [operandAt]
@[simp] theorem operandOf_pc (src : AluSrc) (s : State) : (operandOf src s).2.pc = s.pc := by
  cases src <;> simp [operandOf]
@[simp] theorem operandAt_ime (x : Loc8) (s : State) : (operandAt x s).2.ime = s.ime := by
  cases x <;> simp [operandAt]
@[simp] theorem operandOf_ime (src : AluSrc) (s : State) : (operandOf src s).2.ime = s.ime := by
  cases src <;> simp [operandOf]
@[simp] theorem operandAt_imeScheduled (x : Loc8) (s : State) : (operandAt x s).2.imeScheduled = s.imeScheduled := by
  cases x <;> simp [operandAt]
@[simp] theorem operandOf_imeScheduled (src : AluSrc) (s : State) : (operandOf src s).2.imeScheduled = s.imeScheduled := by
  cases src <;> simp [operandOf]
@[simp] theorem operandAt_halted (x : Loc8) (s : State) : (operandAt x s).2.halted = s.halted := by
  cases x <;> simp [operandAt]
@[simp] theorem operandOf_halted (src : AluSrc) (s : State) : (operandOf src s).2.halted = s.halted := by
  cases src <;> simp [operandOf]
@[simp] theorem operandAt_stopped (x : Loc8) (s : State) : (operandAt x s).2.stopped = s.stopped := by
  cases x <;> simp [operandAt]
@[simp] theorem operandOf_stopped (src : AluSrc) (s : State) : (operandOf src s).2.stopped = s.stopped := by
  cases src <;> simp [operandOf]
@[simp] theorem operandAt_fault (x : Loc8) (s : State) : (operandAt x s).2.fault = s.fault := by
  cases x <;> simp [operandAt]
@[simp] theorem operandOf_fault (src : AluSrc) (s : State) : (operandOf src s).2.fault = s.fault := by
  cases src <;> simp [operandOf]
@[simp] theorem storedAt_flags (x : Loc8) (v : Byte) (s : State) : (storedAt x v s).flags = s.flags := by
  cases x <;> simp [storedAt]
@[simp] theorem storedAt_sp (x : Loc8) (v : Byte) (s : State) : (storedAt x v s).sp = s.sp := by
  cases x <;> simp [storedAt]
@[simp] theorem storedAt_pc (x : Loc8) (v : Byte) (s : State) : (storedAt x v s).pc = s.pc := by
  cases x <;> simp [storedAt]
@[simp] theorem storedAt_ime (x : Loc8) (v : Byte) (s : State) : (storedAt x v s).ime = s.ime := by
  cases x <;> simp [storedAt]
@[simp] theorem storedAt_imeScheduled (x : Loc8) (v : Byte) (s : State) : (storedAt x v s).imeScheduled = s.imeScheduled := by
  cases x <;> simp [storedAt]
@[simp] theorem storedAt_halted (x : Loc8) (v : Byte) (s : State) : (storedAt x v s).halted = s.halted := by
  cases x <;> simp [storedAt]
@[simp] theorem storedAt_stopped (x : Loc8) (v : Byte) (s : State) : (storedAt x v s).stopped = s.stopped := by
  cases x <;> simp [storedAt]
@[simp] theorem storedAt_fault (x : Loc8) (v : Byte) (s : State) : (storedAt x v s).fault = s.fault := by
  cases x <;> simp [storedAt]
@[simp] theorem afterPush_regs (v : Word) (s : State) : (afterPush v s).regs = s.regs := by simp [afterPush]
@[simp] theorem afterPush_flags (v : Word) (s : State) : (afterPush v s).flags = s.flags := by simp [afterPush]
@[simp] theorem afterPush_pc (v : Word) (s : State) : (afterPush v s).pc = s.pc := by simp [afterPush]
@[simp] theorem afterPush_ime (v : Word) (s : State) : (afterPush v s).ime = s.ime := by simp [afterPush]
@[simp] theorem afterPush_imeScheduled (v : Word) (s : State) : (afterPush v s).imeScheduled = s.imeScheduled := by simp [afterPush]
@[simp] theorem afterPush_halted (v : Word) (s : State) : (afterPush v s).halted = s.halted := by simp [afterPush]
@[simp] theorem afterPush_stopped (v : Word) (s : State) : (afterPush v s).stopped = s.stopped := by simp [afterPush]
@[simp] theorem afterPush_fault (v : Word) (s : State) : (afterPush v s).fault = s.fault := by simp [afterPush]
@[simp] theorem afterPush_sp (v : Word) (s : State) : (afterPush v s).sp = s.sp - 2 := by simp [afterPush]

/-- Storing to an operand changes only the registers it names. -/
theorem storedAt_reg_ne {x : Loc8} {r : Reg8} (h : r ∉ locRegs x) (v : Byte) (s : State) :
    (storedAt x v s).reg r = s.reg r := by
  cases x with
  | reg q => simp only [locRegs, List.mem_singleton] at h; simp [storedAt, reg_setReg, h]
  | atHl => cases r <;> simp [storedAt, State.reg]

/-! ## Machine cycles -/

/-- A machine cycle after the fetch: `none` stores nothing, `some (a, v)` stores `v` at `a`. -/
abbrev Access := Option (Word × Byte)

/-- One machine cycle: the tick, then the store if there is one (R70, R71). -/
def runAccess (x : Access) (s : State) : State :=
  match x with
  | none => advance 1 s
  | some (a, v) => busWrite a v (advance 1 s)

/-- Machine cycles in order. -/
def runAccesses : List Access → State → State
  | [], s => s
  | x :: rest, s => runAccesses rest (runAccess x s)

/-- The addresses that machine cycles store to, in order. -/
def accessAddrs (l : List Access) : List Word := l.filterMap (Option.map Prod.fst)

/-- Two states agree on everything the bus reaches: IE, IF, the timer, the serial registers and the arrays. -/
structure SameBus (s t : State) : Prop where
  ie : s.ie = t.ie
  intFlags : s.intFlags = t.intFlags
  timer : s.timer = t.timer
  sb : s.sb = t.sb
  sc : s.sc = t.sc
  wram : s.wram = t.wram
  hram : s.hram = t.hram
  backing : s.backing = t.backing

theorem SameBus.busRead {s t : State} (h : SameBus s t) (a : Word) : busRead a s = busRead a t := by
  unfold Sys2Proof.Machine.busRead
  split <;> (try simp only [h.ie, h.wram, h.hram, h.backing])
  rename_i r _
  cases r <;> simp only [ioRead, h.intFlags, h.timer, h.sb, h.sc]

theorem SameBus.memWf {s t : State} (h : SameBus s t) : s.memWf = t.memWf :=
  memWf_of_arrays h.wram h.hram h.backing

theorem runAccess_memWf {x : Access} {s : State} (h : s.memWf = true) : (runAccess x s).memWf = true := by
  cases x with
  | none => simpa [runAccess] using h
  | some p => exact busWrite_memWf (by simpa using h)

/-- Machine cycles keep the canonical form. -/
theorem runAccesses_memWf {l : List Access} {s : State} (h : s.memWf = true) : (runAccesses l s).memWf = true := by
  induction l generalizing s with
  | nil => exact h
  | cons x rest ih => exact ih (runAccess_memWf h)

/-! ## The inversion -/

/-- The cycles of reading and writing back an 8-bit operand. -/
def locAccesses (x : Loc8) (v : Byte) (s : State) : List Access :=
  match x with
  | .reg _ => []
  | .atHl => [none, some (s.hl, v)]

/-- The cycles of reading an 8-bit operand. -/
def readAccesses : Loc8 → List Access
  | .reg _ => []
  | .atHl => [none]

/-- The cycles of reading an ALU operand, after the fetch. -/
def srcAccesses : AluSrc → List Access
  | .reg _ => []
  | .atHl => [none]
  | .imm _ => []

/-- The cycles of a form after its fetch, with the bytes they store. -/
def accessesOf : Form → State → List Access
  | .nop, _ => []
  | .halt, _ => []
  | .stop, _ => []
  | .di, _ => []
  | .ei, _ => []
  | .daa, _ => []
  | .cpl, _ => []
  | .scf, _ => []
  | .ccf, _ => []
  | .rlca, _ => []
  | .rrca, _ => []
  | .rla, _ => []
  | .rra, _ => []
  | .ldRegReg _ _, _ => []
  | .ldRegImm _ _, _ => []
  | .ldRegAtHl _, _ => [none]
  | .ldAtHlReg src, s => [some (s.hl, s.reg src)]
  | .ldAtHlImm n8, s => [some (s.hl, n8)]
  | .ldAAtPtr _, _ => [none]
  | .ldAtPtrA p, s => [some (s.ptr p, s.regs.a)]
  | .ldAAtA16 _, _ => [none]
  | .ldAtA16A a16, s => [some (a16, s.regs.a)]
  | .ldhAAtC, _ => [none]
  | .ldhAtCA, s => [some (highPage s.regs.c, s.regs.a)]
  | .ldhAAtA8 _, _ => [none]
  | .ldhAtA8A a8, s => [some (highPage a8, s.regs.a)]
  | .ldAAtHlInc, _ => [none]
  | .ldAAtHlDec, _ => [none]
  | .ldAtHlIncA, s => [some (s.hl, s.regs.a)]
  | .ldAtHlDecA, s => [some (s.hl, s.regs.a)]
  | .ldPairImm _ _, _ => []
  | .ldAtA16Sp a16, s => [some (a16, loByte s.sp), some (a16 + 1, hiByte s.sp)]
  | .ldSpHl, _ => [none]
  | .ldHlSpE8 _, _ => [none]
  | .push rr, s => [none, some (s.sp - 1, hiByte (s.stackPair rr)), some (s.sp - 2, loByte (s.stackPair rr))]
  | .pop _, _ => [none, none]
  | .alu _ src, _ => srcAccesses src
  | .inc x, s => locAccesses x (inc8 (busRead s.hl (advance 1 s)) s.flags).1 s
  | .dec x, s => locAccesses x (dec8 (busRead s.hl (advance 1 s)) s.flags).1 s
  | .addHl _, _ => [none]
  | .incPair _, _ => [none]
  | .decPair _, _ => [none]
  | .addSpE8 _, _ => [none, none]
  | .jp _, _ => [none]
  | .jpCc cc _, s => if s.cond cc then [none] else []
  | .jpHl, _ => []
  | .jr _, _ => [none]
  | .jrCc cc _, s => if s.cond cc then [none] else []
  | .call _, s => [none, some (s.sp - 1, hiByte s.pc), some (s.sp - 2, loByte s.pc)]
  | .callCc cc _, s => if s.cond cc then [none, some (s.sp - 1, hiByte s.pc), some (s.sp - 2, loByte s.pc)] else []
  | .ret, _ => [none, none, none]
  | .retCc cc, s => if s.cond cc then [none, none, none, none] else [none]
  | .reti, _ => [none, none, none]
  | .rst _, s => [none, some (s.sp - 1, hiByte s.pc), some (s.sp - 2, loByte s.pc)]
  | .prefixCb _, _ => []
  | .illegal _, _ => []
  | .rot op x, s => locAccesses x (rotCompute op (busRead s.hl (advance 1 s)) s.flags.c).1 s
  | .bit _ x, _ => readAccesses x
  | .res b x, s => locAccesses x (clearBit b (busRead s.hl (advance 1 s))) s
  | .set b x, s => locAccesses x (setBit b (busRead s.hl (advance 1 s))) s

/-- The cycles store where the rules say. -/
theorem accessesOf_addrs (form : Form) (s : State) : accessAddrs (accessesOf form s) = storeAddrs form s := by
  cases form
  case alu op src => cases src <;> rfl
  case inc x => cases x <;> rfl
  case dec x => cases x <;> rfl
  case rot op x => cases x <;> rfl
  case bit b x => cases x <;> rfl
  case res b x => cases x <;> rfl
  case set b x => cases x <;> rfl
  case jpCc cc a16 => simp only [accessesOf, storeAddrs]; split <;> rfl
  case jrCc cc e8 => simp only [accessesOf, storeAddrs]; split <;> rfl
  case callCc cc a16 => simp only [accessesOf, storeAddrs]; split <;> rfl
  case retCc cc => simp only [accessesOf, storeAddrs]; split <;> rfl
  all_goals rfl

/-- Their number is the instruction's cycle count, less one for each byte fetched. -/
theorem accessesOf_length (form : Form) (h : ∀ sub, form ≠ .prefixCb sub) (s : State) :
    form.bytes.length + (accessesOf form s).length = cyclesOf form s := by
  cases form
  case prefixCb sub => exact absurd rfl (h sub)
  case alu op src => cases src <;> rfl
  case inc x => cases x <;> rfl
  case dec x => cases x <;> rfl
  case rot op x => cases x <;> rfl
  case bit b x => cases x <;> rfl
  case res b x => cases x <;> rfl
  case set b x => cases x <;> rfl
  case jpCc cc a16 => simp only [accessesOf, cyclesOf]; split <;> rfl
  case jrCc cc e8 => simp only [accessesOf, cyclesOf]; split <;> rfl
  case callCc cc a16 => simp only [accessesOf, cyclesOf]; split <;> rfl
  case retCc cc => simp only [accessesOf, cyclesOf]; split <;> rfl
  all_goals rfl

@[simp] theorem cond_advance (cc : Cond) (n : Nat) (s : State) : (advance n s).cond cc = s.cond cc := by
  simp [State.cond]
@[simp] theorem hl_advance (n : Nat) (s : State) : (advance n s).hl = s.hl := by simp [State.hl]

theorem SameBus.refl (s : State) : SameBus s s := ⟨rfl, rfl, rfl, rfl, rfl, rfl, rfl, rfl⟩
theorem SameBus.trans {s t u : State} (h : SameBus s t) (k : SameBus t u) : SameBus s u :=
  ⟨h.ie.trans k.ie, h.intFlags.trans k.intFlags, h.timer.trans k.timer, h.sb.trans k.sb, h.sc.trans k.sc,
    h.wram.trans k.wram, h.hram.trans k.hram, h.backing.trans k.backing⟩
theorem SameBus.withRegs {s t : State} (h : SameBus s t) (v : Regs) : SameBus (s.withRegs v) t :=
  ⟨h.ie, h.intFlags, h.timer, h.sb, h.sc, h.wram, h.hram, h.backing⟩
theorem SameBus.withFlags {s t : State} (h : SameBus s t) (v : Flags) : SameBus (s.withFlags v) t :=
  ⟨h.ie, h.intFlags, h.timer, h.sb, h.sc, h.wram, h.hram, h.backing⟩
theorem SameBus.withSp {s t : State} (h : SameBus s t) (v : Word) : SameBus (s.withSp v) t :=
  ⟨h.ie, h.intFlags, h.timer, h.sb, h.sc, h.wram, h.hram, h.backing⟩
theorem SameBus.withPc {s t : State} (h : SameBus s t) (v : Word) : SameBus (s.withPc v) t :=
  ⟨h.ie, h.intFlags, h.timer, h.sb, h.sc, h.wram, h.hram, h.backing⟩
theorem SameBus.withIme {s t : State} (h : SameBus s t) (v : Bool) : SameBus (s.withIme v) t :=
  ⟨h.ie, h.intFlags, h.timer, h.sb, h.sc, h.wram, h.hram, h.backing⟩
theorem SameBus.withImeScheduled {s t : State} (h : SameBus s t) (v : Bool) : SameBus (s.withImeScheduled v) t :=
  ⟨h.ie, h.intFlags, h.timer, h.sb, h.sc, h.wram, h.hram, h.backing⟩
theorem SameBus.withHalted {s t : State} (h : SameBus s t) (v : Bool) : SameBus (s.withHalted v) t :=
  ⟨h.ie, h.intFlags, h.timer, h.sb, h.sc, h.wram, h.hram, h.backing⟩
theorem SameBus.withStopped {s t : State} (h : SameBus s t) (v : Bool) : SameBus (s.withStopped v) t :=
  ⟨h.ie, h.intFlags, h.timer, h.sb, h.sc, h.wram, h.hram, h.backing⟩
theorem SameBus.withFault {s t : State} (h : SameBus s t) (v : Option FaultReport) : SameBus (s.withFault v) t :=
  ⟨h.ie, h.intFlags, h.timer, h.sb, h.sc, h.wram, h.hram, h.backing⟩
theorem SameBus.setReg {s t : State} (h : SameBus s t) (r : Reg8) (v : Byte) : SameBus (s.setReg r v) t := by
  cases r <;> exact h.withRegs _
theorem SameBus.setPair {s t : State} (h : SameBus s t) (p : Pair) (v : Word) : SameBus (s.setPair p v) t := by
  cases p <;> first | exact h.withRegs _ | exact h.withSp _
theorem SameBus.setStackPair {s t : State} (h : SameBus s t) (p : StackPair) (v : Word) :
    SameBus (s.setStackPair p v) t := by
  cases p <;> first | exact h.withRegs _ | exact (h.withRegs _).withFlags _
theorem SameBus.push (v : Word) (s : State) :
    SameBus (push16 v (advance 1 s)) (runAccesses [none, some (s.sp - 1, hiByte v), some (s.sp - 2, loByte v)] s) := by
  rw [push16_eq]
  simp only [afterPush, runAccesses, runAccess, advance_sp]
  exact (SameBus.refl _).withSp _
theorem SameBus.pop (s : State) : SameBus (pop16 s).2 (advance 2 s) := by
  rw [pop16_eq]
  exact (SameBus.refl _).withSp _

theorem SameBus.advance {s t : State} (h : SameBus s t) (n : Nat) :
    SameBus (Sys2Proof.Machine.advance n s) (Sys2Proof.Machine.advance n t) := by
  have key : s = (((((((((t.withRegs s.regs).withFlags s.flags).withSp s.sp).withPc s.pc).withIme s.ime).withImeScheduled
      s.imeScheduled).withHalted s.halted).withStopped s.stopped).withFault s.fault) := by
    cases s; cases t; cases h; simp_all [State.withRegs, State.withFlags, State.withSp, State.withPc, State.withIme,
      State.withImeScheduled, State.withHalted, State.withStopped, State.withFault]
  have move : Sys2Proof.Machine.advance n s = (((((((((Sys2Proof.Machine.advance n t).withRegs s.regs).withFlags
      s.flags).withSp s.sp).withPc s.pc).withIme s.ime).withImeScheduled s.imeScheduled).withHalted
      s.halted).withStopped s.stopped).withFault s.fault := by
    rw [← advance_withRegs, ← advance_withFlags, ← advance_withSp, ← advance_withPc, ← advance_withIme,
      ← advance_withImeScheduled, ← advance_withHalted, ← advance_withStopped, ← advance_withFault]
    exact congrArg _ key
  rw [move]
  exact ⟨rfl, rfl, rfl, rfl, rfl, rfl, rfl, rfl⟩

/-- What every instruction does on the bus: its machine cycles after the fetch, and nothing else. -/
theorem execForm_bus (form : Form) (h : ∀ sub, form ≠ .prefixCb sub) (s : State) :
    SameBus (execForm form s) (runAccesses (accessesOf form s) s) := by
  have idle := SameBus.refl s
  have one := SameBus.refl (Sys2Proof.Machine.advance 1 s)
  have two := SameBus.refl (Sys2Proof.Machine.advance 2 s)
  cases form
  case prefixCb sub => exact absurd rfl (h sub)
  case nop => exact idle
  case halt => exact idle.withHalted _
  case stop => exact (idle.withStopped _).withFault _
  case di => exact idle.withIme _
  case ei => exact idle.withImeScheduled _
  case daa => exact (idle.withRegs _).withFlags _
  case cpl => exact (idle.withRegs _).withFlags _
  case scf => exact idle.withFlags _
  case ccf => exact idle.withFlags _
  case rlca => exact (idle.withRegs _).withFlags _
  case rrca => exact (idle.withRegs _).withFlags _
  case rla => exact (idle.withRegs _).withFlags _
  case rra => exact (idle.withRegs _).withFlags _
  case ldRegReg dst src => exact idle.setReg _ _
  case ldRegImm dst n8 => exact idle.setReg _ _
  case ldRegAtHl dst => exact one.setReg _ _
  case ldAtHlReg src => exact SameBus.refl _
  case ldAtHlImm n8 => exact SameBus.refl _
  case ldAAtPtr p => exact one.withRegs _
  case ldAtPtrA p => exact SameBus.refl _
  case ldAAtA16 a16 => exact one.withRegs _
  case ldAtA16A a16 => exact SameBus.refl _
  case ldhAAtC => exact one.withRegs _
  case ldhAtCA => exact SameBus.refl _
  case ldhAAtA8 a8 => exact one.withRegs _
  case ldhAtA8A a8 => exact SameBus.refl _
  case ldAAtHlInc => exact (one.withRegs _).withRegs _
  case ldAAtHlDec => exact (one.withRegs _).withRegs _
  case ldAtHlIncA => exact (SameBus.refl _).withRegs _
  case ldAtHlDecA => exact (SameBus.refl _).withRegs _
  case ldPairImm rr n16 => exact idle.setPair _ _
  case ldAtA16Sp a16 => exact SameBus.refl _
  case ldSpHl => exact one.withSp _
  case ldHlSpE8 e8 => exact (one.withRegs _).withFlags _
  case push rr => exact SameBus.push _ s
  case pop rr => exact (SameBus.pop s).setStackPair _ _
  case alu op src =>
    rcases src with r | _ | n8 <;> cases op <;>
      first
      | exact (idle.withRegs _).withFlags _
      | exact idle.withFlags _
      | exact (one.withRegs _).withFlags _
  case inc x =>
    cases x with
    | reg r => exact (idle.setReg _ _).withFlags _
    | atHl =>
      simp only [execForm, incOp, readLoc, writeLoc, memRead, memWrite_eq, tick_eq, hl_advance, advance_flags]
      exact (SameBus.refl _).withFlags _
  case dec x =>
    cases x with
    | reg r => exact (idle.setReg _ _).withFlags _
    | atHl =>
      simp only [execForm, decOp, readLoc, writeLoc, memRead, memWrite_eq, tick_eq, hl_advance, advance_flags]
      exact (SameBus.refl _).withFlags _
  case addHl rr => exact (one.withRegs _).withFlags _
  case incPair rr => exact one.setPair _ _
  case decPair rr => exact one.setPair _ _
  case addSpE8 e8 => exact (two.withSp _).withFlags _
  case jp a16 => exact one.withPc _
  case jpCc cc a16 =>
    simp only [execForm, jpCcOp, accessesOf]
    split
    · exact one.withPc _
    · exact idle
  case jpHl => exact idle.withPc _
  case jr e8 => exact one.withPc _
  case jrCc cc e8 =>
    simp only [execForm, jrCcOp, accessesOf]
    split
    · exact one.withPc _
    · exact idle
  case call a16 =>
    simp only [execForm, callOp, callTo, accessesOf, internal_eq, advance_pc]
    exact (SameBus.push _ s).withPc _
  case callCc cc a16 =>
    simp only [execForm, callCcOp, accessesOf]
    split
    · simp only [callTo, internal_eq, advance_pc]
      exact (SameBus.push _ s).withPc _
    · exact idle
  case ret => exact ((SameBus.pop s).advance 1).withPc _
  case retCc cc =>
    simp only [execForm, retCcOp, accessesOf, internal_eq, cond_advance]
    split
    · exact ((SameBus.pop (Sys2Proof.Machine.advance 1 s)).advance 1).withPc _
    · exact one
  case reti => exact (((SameBus.pop s).advance 1).withPc _).withIme _
  case rst y =>
    simp only [execForm, rstOp, callTo, accessesOf, internal_eq, advance_pc]
    exact (SameBus.push _ s).withPc _
  case illegal op => exact (idle.withStopped _).withFault _
  case rot op x =>
    cases x with
    | reg r => exact (idle.setReg _ _).withFlags _
    | atHl =>
      simp only [execForm, rotOp, readLoc, writeLoc, memRead, memWrite_eq, tick_eq, hl_advance, advance_flags]
      exact (SameBus.refl _).withFlags _
  case bit b x =>
    cases x with
    | reg r => exact idle.withFlags _
    | atHl => exact one.withFlags _
  case res b x =>
    cases x with
    | reg r => exact idle.setReg _ _
    | atHl =>
      simp only [execForm, resOp, readLoc, writeLoc, memRead, memWrite_eq, tick_eq, hl_advance]
      exact SameBus.refl _
  case set b x =>
    cases x with
    | reg r => exact idle.setReg _ _
    | atHl =>
      simp only [execForm, setOp, readLoc, writeLoc, memRead, memWrite_eq, tick_eq, hl_advance]
      exact SameBus.refl _

/-- The form of an instruction with PREFIX CB resolved is not PREFIX CB. -/
theorem opOf_ne_prefixCb (i : Instr) (sub : Byte) : opOf i ≠ .prefixCb sub := by
  unfold opOf
  cases i.form <;> simp only [resolvePrefix, ne_eq, reduceCtorEq, not_false_eq_true]
  unfold decodeCb
  simp only
  split <;> simp

end Sys2Proof.Machine
end

