-- ==== Sys2Proof/Tests/Slice0.lean ====
section
/-! SUPPORT. Our own tests. Expected results come from the spec: the words and mnemonics of the opcode maps
(R100 to R103, spec/opcode_table.json), the "Example" and "Corner cases" lines of the instruction rules, and
R332, R356, R359 for the timer and interrupts. The last part holds the witnesses of the obligations' hypotheses. -/

namespace Sys2Proof.Machine.Tests

/-! ## Well-formedness: its one check refuses the second name of a CB word -/

theorem test_prefixCb_is_not_well_formed : WellFormed (.prefixCb 0x37) = false := by decide
theorem test_swapA_is_well_formed : WellFormed .swapA = true := by decide

/-! ## Decoding: every row of the two maps, from its words. The operand bytes are 0x34 and 0x12. -/

/-- The instructions of a list of table words. -/
def decodeAll (words : List (Nat × Nat)) : List (Option Instr) := words.map fun p => decodeTableWord p.1 p.2

theorem test_decode_row_0x : decodeAll [
    (8, 0x00), (24, 0x123401), (8, 0x02), (8, 0x03), (8, 0x04), (8, 0x05), (16, 0x3406), (8, 0x07),
    (24, 0x123408), (8, 0x09), (8, 0x0A), (8, 0x0B), (8, 0x0C), (8, 0x0D), (16, 0x340E), (8, 0x0F)] =
  [
    some .nop, some (.ldBcN16 0x1234), some .ldAtBcA, some .incBc, some .incB, some .decB, some (.ldBN8 0x34),
    some .rlca, some (.ldAtA16Sp 0x1234), some .addHlBc, some .ldAAtBc, some .decBc, some .incC, some .decC,
    some (.ldCN8 0x34), some .rrca] := by decide
theorem test_decode_row_1x : decodeAll [
    (8, 0x10), (24, 0x123411), (8, 0x12), (8, 0x13), (8, 0x14), (8, 0x15), (16, 0x3416), (8, 0x17),
    (16, 0x3418), (8, 0x19), (8, 0x1A), (8, 0x1B), (8, 0x1C), (8, 0x1D), (16, 0x341E), (8, 0x1F)] =
  [
    some .stop, some (.ldDeN16 0x1234), some .ldAtDeA, some .incDe, some .incD, some .decD, some (.ldDN8 0x34),
    some .rla, some (.jrE8 0x34), some .addHlDe, some .ldAAtDe, some .decDe, some .incE, some .decE,
    some (.ldEN8 0x34), some .rra] := by decide
theorem test_decode_row_2x : decodeAll [
    (16, 0x3420), (24, 0x123421), (8, 0x22), (8, 0x23), (8, 0x24), (8, 0x25), (16, 0x3426), (8, 0x27),
    (16, 0x3428), (8, 0x29), (8, 0x2A), (8, 0x2B), (8, 0x2C), (8, 0x2D), (16, 0x342E), (8, 0x2F)] =
  [
    some (.jrNzE8 0x34), some (.ldHlN16 0x1234), some .ldAtHlIncA, some .incHl, some .incH, some .decH,
    some (.ldHN8 0x34), some .daa, some (.jrZE8 0x34), some .addHlHl, some .ldAAtHlInc, some .decHl,
    some .incL, some .decL, some (.ldLN8 0x34), some .cpl] := by decide
theorem test_decode_row_3x : decodeAll [
    (16, 0x3430), (24, 0x123431), (8, 0x32), (8, 0x33), (8, 0x34), (8, 0x35), (16, 0x3436), (8, 0x37),
    (16, 0x3438), (8, 0x39), (8, 0x3A), (8, 0x3B), (8, 0x3C), (8, 0x3D), (16, 0x343E), (8, 0x3F)] =
  [
    some (.jrNcE8 0x34), some (.ldSpN16 0x1234), some .ldAtHlDecA, some .incSp, some .incAtHl, some .decAtHl,
    some (.ldAtHlN8 0x34), some .scf, some (.jrCE8 0x34), some .addHlSp, some .ldAAtHlDec, some .decSp,
    some .incA, some .decA, some (.ldAN8 0x34), some .ccf] := by decide
theorem test_decode_row_4x : decodeAll [
    (8, 0x40), (8, 0x41), (8, 0x42), (8, 0x43), (8, 0x44), (8, 0x45), (8, 0x46), (8, 0x47), (8, 0x48),
    (8, 0x49), (8, 0x4A), (8, 0x4B), (8, 0x4C), (8, 0x4D), (8, 0x4E), (8, 0x4F)] =
  [
    some .ldBB, some .ldBC, some .ldBD, some .ldBE, some .ldBH, some .ldBL, some .ldBAtHl, some .ldBA,
    some .ldCB, some .ldCC, some .ldCD, some .ldCE, some .ldCH, some .ldCL, some .ldCAtHl, some .ldCA] := by decide
theorem test_decode_row_5x : decodeAll [
    (8, 0x50), (8, 0x51), (8, 0x52), (8, 0x53), (8, 0x54), (8, 0x55), (8, 0x56), (8, 0x57), (8, 0x58),
    (8, 0x59), (8, 0x5A), (8, 0x5B), (8, 0x5C), (8, 0x5D), (8, 0x5E), (8, 0x5F)] =
  [
    some .ldDB, some .ldDC, some .ldDD, some .ldDE, some .ldDH, some .ldDL, some .ldDAtHl, some .ldDA,
    some .ldEB, some .ldEC, some .ldED, some .ldEE, some .ldEH, some .ldEL, some .ldEAtHl, some .ldEA] := by decide
theorem test_decode_row_6x : decodeAll [
    (8, 0x60), (8, 0x61), (8, 0x62), (8, 0x63), (8, 0x64), (8, 0x65), (8, 0x66), (8, 0x67), (8, 0x68),
    (8, 0x69), (8, 0x6A), (8, 0x6B), (8, 0x6C), (8, 0x6D), (8, 0x6E), (8, 0x6F)] =
  [
    some .ldHB, some .ldHC, some .ldHD, some .ldHE, some .ldHH, some .ldHL, some .ldHAtHl, some .ldHA,
    some .ldLB, some .ldLC, some .ldLD, some .ldLE, some .ldLH, some .ldLL, some .ldLAtHl, some .ldLA] := by decide
theorem test_decode_row_7x : decodeAll [
    (8, 0x70), (8, 0x71), (8, 0x72), (8, 0x73), (8, 0x74), (8, 0x75), (8, 0x76), (8, 0x77), (8, 0x78),
    (8, 0x79), (8, 0x7A), (8, 0x7B), (8, 0x7C), (8, 0x7D), (8, 0x7E), (8, 0x7F)] =
  [
    some .ldAtHlB, some .ldAtHlC, some .ldAtHlD, some .ldAtHlE, some .ldAtHlH, some .ldAtHlL, some .halt,
    some .ldAtHlA, some .ldAB, some .ldAC, some .ldAD, some .ldAE, some .ldAH, some .ldAL, some .ldAAtHl,
    some .ldAA] := by decide
theorem test_decode_row_8x : decodeAll [
    (8, 0x80), (8, 0x81), (8, 0x82), (8, 0x83), (8, 0x84), (8, 0x85), (8, 0x86), (8, 0x87), (8, 0x88),
    (8, 0x89), (8, 0x8A), (8, 0x8B), (8, 0x8C), (8, 0x8D), (8, 0x8E), (8, 0x8F)] =
  [
    some .addAB, some .addAC, some .addAD, some .addAE, some .addAH, some .addAL, some .addAAtHl, some .addAA,
    some .adcAB, some .adcAC, some .adcAD, some .adcAE, some .adcAH, some .adcAL, some .adcAAtHl, some .adcAA] := by decide
theorem test_decode_row_9x : decodeAll [
    (8, 0x90), (8, 0x91), (8, 0x92), (8, 0x93), (8, 0x94), (8, 0x95), (8, 0x96), (8, 0x97), (8, 0x98),
    (8, 0x99), (8, 0x9A), (8, 0x9B), (8, 0x9C), (8, 0x9D), (8, 0x9E), (8, 0x9F)] =
  [
    some .subB, some .subC, some .subD, some .subE, some .subH, some .subL, some .subAtHl, some .subA,
    some .sbcAB, some .sbcAC, some .sbcAD, some .sbcAE, some .sbcAH, some .sbcAL, some .sbcAAtHl, some .sbcAA] := by decide
theorem test_decode_row_Ax : decodeAll [
    (8, 0xA0), (8, 0xA1), (8, 0xA2), (8, 0xA3), (8, 0xA4), (8, 0xA5), (8, 0xA6), (8, 0xA7), (8, 0xA8),
    (8, 0xA9), (8, 0xAA), (8, 0xAB), (8, 0xAC), (8, 0xAD), (8, 0xAE), (8, 0xAF)] =
  [
    some .andB, some .andC, some .andD, some .andE, some .andH, some .andL, some .andAtHl, some .andA,
    some .xorB, some .xorC, some .xorD, some .xorE, some .xorH, some .xorL, some .xorAtHl, some .xorA] := by decide
theorem test_decode_row_Bx : decodeAll [
    (8, 0xB0), (8, 0xB1), (8, 0xB2), (8, 0xB3), (8, 0xB4), (8, 0xB5), (8, 0xB6), (8, 0xB7), (8, 0xB8),
    (8, 0xB9), (8, 0xBA), (8, 0xBB), (8, 0xBC), (8, 0xBD), (8, 0xBE), (8, 0xBF)] =
  [
    some .orB, some .orC, some .orD, some .orE, some .orH, some .orL, some .orAtHl, some .orA, some .cpB,
    some .cpC, some .cpD, some .cpE, some .cpH, some .cpL, some .cpAtHl, some .cpA] := by decide
theorem test_decode_row_Cx : decodeAll [
    (8, 0xC0), (8, 0xC1), (24, 0x1234C2), (24, 0x1234C3), (24, 0x1234C4), (8, 0xC5), (16, 0x34C6), (8, 0xC7),
    (8, 0xC8), (8, 0xC9), (24, 0x1234CA), (8, 0xCB), (24, 0x1234CC), (24, 0x1234CD), (16, 0x34CE), (8, 0xCF)] =
  [
    some .retNz, some .popBc, some (.jpNzA16 0x1234), some (.jpA16 0x1234), some (.callNzA16 0x1234),
    some .pushBc, some (.addAN8 0x34), some .rst00, some .retZ, some .ret, some (.jpZA16 0x1234),
    some (.prefixCb 0), some (.callZA16 0x1234), some (.callA16 0x1234), some (.adcAN8 0x34), some .rst08] := by decide
theorem test_decode_row_Dx : decodeAll [
    (8, 0xD0), (8, 0xD1), (24, 0x1234D2), (8, 0xD3), (24, 0x1234D4), (8, 0xD5), (16, 0x34D6), (8, 0xD7),
    (8, 0xD8), (8, 0xD9), (24, 0x1234DA), (8, 0xDB), (24, 0x1234DC), (8, 0xDD), (16, 0x34DE), (8, 0xDF)] =
  [
    some .retNc, some .popDe, some (.jpNcA16 0x1234), some .illegalD3, some (.callNcA16 0x1234), some .pushDe,
    some (.subN8 0x34), some .rst10, some .retC, some .reti, some (.jpCA16 0x1234), some .illegalDB,
    some (.callCA16 0x1234), some .illegalDD, some (.sbcAN8 0x34), some .rst18] := by decide
theorem test_decode_row_Ex : decodeAll [
    (16, 0x34E0), (8, 0xE1), (8, 0xE2), (8, 0xE3), (8, 0xE4), (8, 0xE5), (16, 0x34E6), (8, 0xE7), (16, 0x34E8),
    (8, 0xE9), (24, 0x1234EA), (8, 0xEB), (8, 0xEC), (8, 0xED), (16, 0x34EE), (8, 0xEF)] =
  [
    some (.ldhAtA8A 0x34), some .popHl, some .ldhAtCA, some .illegalE3, some .illegalE4, some .pushHl,
    some (.andN8 0x34), some .rst20, some (.addSpE8 0x34), some .jpHl, some (.ldAtA16A 0x1234),
    some .illegalEB, some .illegalEC, some .illegalED, some (.xorN8 0x34), some .rst28] := by decide
theorem test_decode_row_Fx : decodeAll [
    (16, 0x34F0), (8, 0xF1), (8, 0xF2), (8, 0xF3), (8, 0xF4), (8, 0xF5), (16, 0x34F6), (8, 0xF7), (16, 0x34F8),
    (8, 0xF9), (24, 0x1234FA), (8, 0xFB), (8, 0xFC), (8, 0xFD), (16, 0x34FE), (8, 0xFF)] =
  [
    some (.ldhAAtA8 0x34), some .popAf, some .ldhAAtC, some .di, some .illegalF4, some .pushAf,
    some (.orN8 0x34), some .rst30, some (.ldHlSpE8 0x34), some .ldSpHl, some (.ldAAtA16 0x1234), some .ei,
    some .illegalFC, some .illegalFD, some (.cpN8 0x34), some .rst38] := by decide
theorem test_decode_cb_row_0x : decodeAll [
    (16, 0xCB00), (16, 0xCB01), (16, 0xCB02), (16, 0xCB03), (16, 0xCB04), (16, 0xCB05), (16, 0xCB06),
    (16, 0xCB07), (16, 0xCB08), (16, 0xCB09), (16, 0xCB0A), (16, 0xCB0B), (16, 0xCB0C), (16, 0xCB0D),
    (16, 0xCB0E), (16, 0xCB0F)] =
  [
    some .rlcB, some .rlcC, some .rlcD, some .rlcE, some .rlcH, some .rlcL, some .rlcAtHl, some .rlcA,
    some .rrcB, some .rrcC, some .rrcD, some .rrcE, some .rrcH, some .rrcL, some .rrcAtHl, some .rrcA] := by decide
theorem test_decode_cb_row_1x : decodeAll [
    (16, 0xCB10), (16, 0xCB11), (16, 0xCB12), (16, 0xCB13), (16, 0xCB14), (16, 0xCB15), (16, 0xCB16),
    (16, 0xCB17), (16, 0xCB18), (16, 0xCB19), (16, 0xCB1A), (16, 0xCB1B), (16, 0xCB1C), (16, 0xCB1D),
    (16, 0xCB1E), (16, 0xCB1F)] =
  [
    some .rlB, some .rlC, some .rlD, some .rlE, some .rlH, some .rlL, some .rlAtHl, some .rlA, some .rrB,
    some .rrC, some .rrD, some .rrE, some .rrH, some .rrL, some .rrAtHl, some .rrA] := by decide
theorem test_decode_cb_row_2x : decodeAll [
    (16, 0xCB20), (16, 0xCB21), (16, 0xCB22), (16, 0xCB23), (16, 0xCB24), (16, 0xCB25), (16, 0xCB26),
    (16, 0xCB27), (16, 0xCB28), (16, 0xCB29), (16, 0xCB2A), (16, 0xCB2B), (16, 0xCB2C), (16, 0xCB2D),
    (16, 0xCB2E), (16, 0xCB2F)] =
  [
    some .slaB, some .slaC, some .slaD, some .slaE, some .slaH, some .slaL, some .slaAtHl, some .slaA,
    some .sraB, some .sraC, some .sraD, some .sraE, some .sraH, some .sraL, some .sraAtHl, some .sraA] := by decide
theorem test_decode_cb_row_3x : decodeAll [
    (16, 0xCB30), (16, 0xCB31), (16, 0xCB32), (16, 0xCB33), (16, 0xCB34), (16, 0xCB35), (16, 0xCB36),
    (16, 0xCB37), (16, 0xCB38), (16, 0xCB39), (16, 0xCB3A), (16, 0xCB3B), (16, 0xCB3C), (16, 0xCB3D),
    (16, 0xCB3E), (16, 0xCB3F)] =
  [
    some .swapB, some .swapC, some .swapD, some .swapE, some .swapH, some .swapL, some .swapAtHl, some .swapA,
    some .srlB, some .srlC, some .srlD, some .srlE, some .srlH, some .srlL, some .srlAtHl, some .srlA] := by decide
theorem test_decode_cb_row_4x : decodeAll [
    (16, 0xCB40), (16, 0xCB41), (16, 0xCB42), (16, 0xCB43), (16, 0xCB44), (16, 0xCB45), (16, 0xCB46),
    (16, 0xCB47), (16, 0xCB48), (16, 0xCB49), (16, 0xCB4A), (16, 0xCB4B), (16, 0xCB4C), (16, 0xCB4D),
    (16, 0xCB4E), (16, 0xCB4F)] =
  [
    some .bit0B, some .bit0C, some .bit0D, some .bit0E, some .bit0H, some .bit0L, some .bit0AtHl, some .bit0A,
    some .bit1B, some .bit1C, some .bit1D, some .bit1E, some .bit1H, some .bit1L, some .bit1AtHl, some .bit1A] := by decide
theorem test_decode_cb_row_5x : decodeAll [
    (16, 0xCB50), (16, 0xCB51), (16, 0xCB52), (16, 0xCB53), (16, 0xCB54), (16, 0xCB55), (16, 0xCB56),
    (16, 0xCB57), (16, 0xCB58), (16, 0xCB59), (16, 0xCB5A), (16, 0xCB5B), (16, 0xCB5C), (16, 0xCB5D),
    (16, 0xCB5E), (16, 0xCB5F)] =
  [
    some .bit2B, some .bit2C, some .bit2D, some .bit2E, some .bit2H, some .bit2L, some .bit2AtHl, some .bit2A,
    some .bit3B, some .bit3C, some .bit3D, some .bit3E, some .bit3H, some .bit3L, some .bit3AtHl, some .bit3A] := by decide
theorem test_decode_cb_row_6x : decodeAll [
    (16, 0xCB60), (16, 0xCB61), (16, 0xCB62), (16, 0xCB63), (16, 0xCB64), (16, 0xCB65), (16, 0xCB66),
    (16, 0xCB67), (16, 0xCB68), (16, 0xCB69), (16, 0xCB6A), (16, 0xCB6B), (16, 0xCB6C), (16, 0xCB6D),
    (16, 0xCB6E), (16, 0xCB6F)] =
  [
    some .bit4B, some .bit4C, some .bit4D, some .bit4E, some .bit4H, some .bit4L, some .bit4AtHl, some .bit4A,
    some .bit5B, some .bit5C, some .bit5D, some .bit5E, some .bit5H, some .bit5L, some .bit5AtHl, some .bit5A] := by decide
theorem test_decode_cb_row_7x : decodeAll [
    (16, 0xCB70), (16, 0xCB71), (16, 0xCB72), (16, 0xCB73), (16, 0xCB74), (16, 0xCB75), (16, 0xCB76),
    (16, 0xCB77), (16, 0xCB78), (16, 0xCB79), (16, 0xCB7A), (16, 0xCB7B), (16, 0xCB7C), (16, 0xCB7D),
    (16, 0xCB7E), (16, 0xCB7F)] =
  [
    some .bit6B, some .bit6C, some .bit6D, some .bit6E, some .bit6H, some .bit6L, some .bit6AtHl, some .bit6A,
    some .bit7B, some .bit7C, some .bit7D, some .bit7E, some .bit7H, some .bit7L, some .bit7AtHl, some .bit7A] := by decide
theorem test_decode_cb_row_8x : decodeAll [
    (16, 0xCB80), (16, 0xCB81), (16, 0xCB82), (16, 0xCB83), (16, 0xCB84), (16, 0xCB85), (16, 0xCB86),
    (16, 0xCB87), (16, 0xCB88), (16, 0xCB89), (16, 0xCB8A), (16, 0xCB8B), (16, 0xCB8C), (16, 0xCB8D),
    (16, 0xCB8E), (16, 0xCB8F)] =
  [
    some .res0B, some .res0C, some .res0D, some .res0E, some .res0H, some .res0L, some .res0AtHl, some .res0A,
    some .res1B, some .res1C, some .res1D, some .res1E, some .res1H, some .res1L, some .res1AtHl, some .res1A] := by decide
theorem test_decode_cb_row_9x : decodeAll [
    (16, 0xCB90), (16, 0xCB91), (16, 0xCB92), (16, 0xCB93), (16, 0xCB94), (16, 0xCB95), (16, 0xCB96),
    (16, 0xCB97), (16, 0xCB98), (16, 0xCB99), (16, 0xCB9A), (16, 0xCB9B), (16, 0xCB9C), (16, 0xCB9D),
    (16, 0xCB9E), (16, 0xCB9F)] =
  [
    some .res2B, some .res2C, some .res2D, some .res2E, some .res2H, some .res2L, some .res2AtHl, some .res2A,
    some .res3B, some .res3C, some .res3D, some .res3E, some .res3H, some .res3L, some .res3AtHl, some .res3A] := by decide
theorem test_decode_cb_row_Ax : decodeAll [
    (16, 0xCBA0), (16, 0xCBA1), (16, 0xCBA2), (16, 0xCBA3), (16, 0xCBA4), (16, 0xCBA5), (16, 0xCBA6),
    (16, 0xCBA7), (16, 0xCBA8), (16, 0xCBA9), (16, 0xCBAA), (16, 0xCBAB), (16, 0xCBAC), (16, 0xCBAD),
    (16, 0xCBAE), (16, 0xCBAF)] =
  [
    some .res4B, some .res4C, some .res4D, some .res4E, some .res4H, some .res4L, some .res4AtHl, some .res4A,
    some .res5B, some .res5C, some .res5D, some .res5E, some .res5H, some .res5L, some .res5AtHl, some .res5A] := by decide
theorem test_decode_cb_row_Bx : decodeAll [
    (16, 0xCBB0), (16, 0xCBB1), (16, 0xCBB2), (16, 0xCBB3), (16, 0xCBB4), (16, 0xCBB5), (16, 0xCBB6),
    (16, 0xCBB7), (16, 0xCBB8), (16, 0xCBB9), (16, 0xCBBA), (16, 0xCBBB), (16, 0xCBBC), (16, 0xCBBD),
    (16, 0xCBBE), (16, 0xCBBF)] =
  [
    some .res6B, some .res6C, some .res6D, some .res6E, some .res6H, some .res6L, some .res6AtHl, some .res6A,
    some .res7B, some .res7C, some .res7D, some .res7E, some .res7H, some .res7L, some .res7AtHl, some .res7A] := by decide
theorem test_decode_cb_row_Cx : decodeAll [
    (16, 0xCBC0), (16, 0xCBC1), (16, 0xCBC2), (16, 0xCBC3), (16, 0xCBC4), (16, 0xCBC5), (16, 0xCBC6),
    (16, 0xCBC7), (16, 0xCBC8), (16, 0xCBC9), (16, 0xCBCA), (16, 0xCBCB), (16, 0xCBCC), (16, 0xCBCD),
    (16, 0xCBCE), (16, 0xCBCF)] =
  [
    some .set0B, some .set0C, some .set0D, some .set0E, some .set0H, some .set0L, some .set0AtHl, some .set0A,
    some .set1B, some .set1C, some .set1D, some .set1E, some .set1H, some .set1L, some .set1AtHl, some .set1A] := by decide
theorem test_decode_cb_row_Dx : decodeAll [
    (16, 0xCBD0), (16, 0xCBD1), (16, 0xCBD2), (16, 0xCBD3), (16, 0xCBD4), (16, 0xCBD5), (16, 0xCBD6),
    (16, 0xCBD7), (16, 0xCBD8), (16, 0xCBD9), (16, 0xCBDA), (16, 0xCBDB), (16, 0xCBDC), (16, 0xCBDD),
    (16, 0xCBDE), (16, 0xCBDF)] =
  [
    some .set2B, some .set2C, some .set2D, some .set2E, some .set2H, some .set2L, some .set2AtHl, some .set2A,
    some .set3B, some .set3C, some .set3D, some .set3E, some .set3H, some .set3L, some .set3AtHl, some .set3A] := by decide
theorem test_decode_cb_row_Ex : decodeAll [
    (16, 0xCBE0), (16, 0xCBE1), (16, 0xCBE2), (16, 0xCBE3), (16, 0xCBE4), (16, 0xCBE5), (16, 0xCBE6),
    (16, 0xCBE7), (16, 0xCBE8), (16, 0xCBE9), (16, 0xCBEA), (16, 0xCBEB), (16, 0xCBEC), (16, 0xCBED),
    (16, 0xCBEE), (16, 0xCBEF)] =
  [
    some .set4B, some .set4C, some .set4D, some .set4E, some .set4H, some .set4L, some .set4AtHl, some .set4A,
    some .set5B, some .set5C, some .set5D, some .set5E, some .set5H, some .set5L, some .set5AtHl, some .set5A] := by decide
theorem test_decode_cb_row_Fx : decodeAll [
    (16, 0xCBF0), (16, 0xCBF1), (16, 0xCBF2), (16, 0xCBF3), (16, 0xCBF4), (16, 0xCBF5), (16, 0xCBF6),
    (16, 0xCBF7), (16, 0xCBF8), (16, 0xCBF9), (16, 0xCBFA), (16, 0xCBFB), (16, 0xCBFC), (16, 0xCBFD),
    (16, 0xCBFE), (16, 0xCBFF)] =
  [
    some .set6B, some .set6C, some .set6D, some .set6E, some .set6H, some .set6L, some .set6AtHl, some .set6A,
    some .set7B, some .set7C, some .set7D, some .set7E, some .set7H, some .set7L, some .set7AtHl, some .set7A] := by decide

/-- A low byte first in memory: 24-bit words are numbered from the first byte. -/
theorem test_decode_low_byte_first : decodeTableWord 24 0x1234C3 = some (.jpA16 0x1234) := by decide
/-- The decoder rejects, by name, a list that ends before the instruction does. -/
theorem test_decode_truncated : decode [] = .error .truncated ∧ decode [0xC3, 0x34] = .error .truncated :=
  ⟨rfl, rfl⟩

/-! ## One instruction each -/

/-- The state after an instruction's own effect. -/
def after (i : Instr) (s : State) : State :=
  match exec i s with
  | .next t => t
  | .fault _ => s
  | .refused _ => s

/-- The state after a step. -/
def stepped (s : State) : State :=
  match step s with
  | .next t => t
  | .fault _ => s
  | .refused _ => s

/-- Reset with A and F set. -/
def withAf (a f : Byte) : State := (State.reset.setReg .a a).withFlags (flagsOfByte f)

/-- A and F of a state. -/
def afOf (s : State) : Byte × Byte := (s.regs.a, s.f)

/-- R120 -/
theorem test_ldCB : (after .ldCB (State.reset.setReg .b 0x12)).regs.c = 0x12 := by decide
/-- R122 -/
theorem test_ldDAtHl : (after .ldDAtHl ((busWrite 0xC000 0x7A State.reset).setHl 0xC000)).regs.d = 0x7A := by decide
/-- R122, corner case: the address comes from the old HL. -/
theorem test_ldHAtHl : (after .ldHAtHl ((busWrite 0xC000 0x7A State.reset).setHl 0xC000)).hl = 0x7A00 := by decide
/-- R123 -/
theorem test_ldAtHlB : busRead 0xC000 (after .ldAtHlB ((State.reset.setHl 0xC000).setReg .b 0x12)) = 0x12 := by decide
/-- R124 -/
theorem test_ldAtHlN8 : Memory.read (after (.ldAtHlN8 0x99) (State.reset.setHl 0xFF80)).hram 0 = 0x99 := by decide
/-- R126: DIV read after two ticks. -/
theorem test_ldAAtDe_div :
    (stepped (placeInstr [0x1A] ((State.reset.setDe 0xFF04).withTimer { State.reset.timer with div := 0x12FE }))).regs.a =
      0x13 := by decide
/-- R128: the echo shows the byte. -/
theorem test_ldAtDeA_echo : busRead 0xF000 (after .ldAtDeA ((State.reset.setDe 0xD000).setReg .a 0x01)) = 0x01 := by decide
/-- R129 -/
theorem test_ldAAtA16_ie : (after (.ldAAtA16 0xFFFF) (State.reset.withIe 0x05)).regs.a = 0x05 := by decide
/-- R130 -/
theorem test_ldAtA16A_ie : (after (.ldAtA16A 0xFFFF) (State.reset.setReg .a 0x04)).ie = 0x04 := by decide
/-- R132 -/
theorem test_ldhAtCA_tac : (after .ldhAtCA ((State.reset.setReg .c 0x07).setReg .a 0xFD)).timer.tac = 0b101 := by decide
/-- R133 -/
theorem test_ldhAAtA8_if : (after (.ldhAAtA8 0x0F) (State.reset.withIntFlags 0x04)).regs.a = 0x04 := by decide
/-- R134 -/
theorem test_ldhAtA8A_sb : (after (.ldhAtA8A 0x01) (State.reset.setReg .a 0x41)).sb = 0x41 := by decide
/-- R135, corner case -/
theorem test_ldAAtHlInc_wraps : (after .ldAAtHlInc (State.reset.setHl 0xFFFF)).hl = 0x0000 := by decide
/-- R138 -/
theorem test_ldAtHlDecA : (after .ldAtHlDecA (State.reset.setHl 0xDFFF)).hl = 0xDFFE := by decide
/-- R140, corner case: the low byte to IE, the high byte to 0000. -/
theorem test_ldAtA16Sp_wraps :
    (fun t => (t.ie, busRead 0x0000 t)) (after (.ldAtA16Sp 0xFFFF) (State.reset.withSp 0x1234)) = (0x34, 0x12) := by decide
/-- R142 -/
theorem test_pushBc :
    (fun t => (busRead 0xFFFD t, busRead 0xFFFC t, t.sp)) (after .pushBc (State.reset.setBc 0x1234)) =
      (0x12, 0x34, 0xFFFC) := by decide
/-- R143, corner case: the low byte from IE, the high byte from 0000. -/
theorem test_popDe_wraps :
    (fun t => (t.de, t.sp)) (after .popDe ((busWrite 0x0000 0x31 (State.reset.withIe 0x05)).withSp 0xFFFF)) =
      (0x3105, 0x0001) := by decide
/-- R144: the low nibble of F is lost. -/
theorem test_popAf : (after .popAf (busWrite 0xD000 0x7F (State.reset.withSp 0xD000))).af = 0x0070 := by decide
/-- R163 -/
theorem test_addAB : afOf (after .addAB ((withAf 0x3A 0).setReg .b 0xC6)) = (0x00, 0xB0) := by decide
/-- R168 -/
theorem test_adcAN8 : afOf (after (.adcAN8 0x3B) (withAf 0xE1 0x10)) = (0x1D, 0x10) := by decide
/-- R170 -/
theorem test_subAtHl : afOf (after .subAtHl (busWrite 0xC000 0x40 ((withAf 0x3E 0).setHl 0xC000))) = (0xFE, 0x50) := by decide
/-- R172, corner case: `SBC A,A` with C = 1. -/
theorem test_sbcAA : afOf (after .sbcAA (withAf 0x12 0x10)) = (0xFF, 0x70) := by decide
/-- R175 -/
theorem test_andL : afOf (after .andL ((withAf 0x5A 0).setReg .l 0x3F)) = (0x1A, 0x20) := by decide
/-- R180 -/
theorem test_xorN8 : afOf (after (.xorN8 0x0F) (withAf 0xFF 0xF0)) = (0xF0, 0x00) := by decide
/-- R181 -/
theorem test_orA : afOf (after .orA (withAf 0x5A 0xF0)) = (0x5A, 0x00) := by decide
/-- R184 -/
theorem test_cpB : afOf (after .cpB ((withAf 0x3C 0).setReg .b 0x2F)) = (0x3C, 0x60) := by decide
/-- R187 -/
theorem test_incA : afOf (after .incA (withAf 0xFF 0x00)) = (0x00, 0xA0) := by decide
/-- R190 -/
theorem test_decAtHl :
    (fun t => (busRead 0xC000 t, t.f)) (after .decAtHl ((withAf 0 0).setHl 0xC000)) = (0xFF, 0x60) := by decide
/-- R191, the document's vector -/
theorem test_daa : afOf (after .daa (withAf 0x12 0x20)) = (0x18, 0x00) := by decide
/-- R191, corner case -/
theorem test_daa_no_bcd : afOf (after .daa (withAf 0xFF 0x00)) = (0x65, 0x10) := by decide
/-- R192 -/
theorem test_cpl : afOf (after .cpl (withAf 0x35 0x00)) = (0xCA, 0x60) := by decide
/-- R193 -/
theorem test_scf : (after .scf (withAf 0 0xE0)).f = 0x90 := by decide
/-- R194 -/
theorem test_ccf : (after .ccf (withAf 0 0x90)).f = 0x80 := by decide
/-- R201 -/
theorem test_addHlBc :
    (fun t => (t.hl, t.flags.h, t.flags.c)) (after .addHlBc ((State.reset.setHl 0x8A23).setBc 0x0605)) =
      (0x9028, true, false) := by decide
/-- R203 -/
theorem test_decDe : (after .decDe (State.reset.setDe 0x0000)).de = 0xFFFF := by decide
/-- R204, corner case: Z stays 0 although the result is 0. -/
theorem test_addSpE8 : (fun t => (t.sp, t.f)) (after (.addSpE8 0xFF) (State.reset.withSp 0x0001)) = (0x0000, 0x30) := by decide
/-- R205 -/
theorem test_ldHlSpE8 :
    (fun t => (t.hl, t.sp, t.f)) (after (.ldHlSpE8 0x02) (State.reset.withSp 0xFFF8)) = (0xFFFA, 0xFFF8, 0x00) := by decide
/-- R222 -/
theorem test_rla : afOf (after .rla (withAf 0x95 0x10)) = (0x2B, 0x10) := by decide
/-- R221 -/
theorem test_rrca : afOf (after .rrca (withAf 0x3B 0x00)) = (0x9D, 0x10) := by decide
/-- R226 -/
theorem test_rlcAtHl : (fun t => (busRead 0xC000 t, t.f)) (after .rlcAtHl ((withAf 0 0).setHl 0xC000)) = (0x00, 0x80) := by decide
/-- R231 -/
theorem test_rrA : afOf (after .rrA (withAf 0x01 0x00)) = (0x00, 0x90) := by decide
/-- R235 -/
theorem test_sraA : afOf (after .sraA (withAf 0x8A 0xF0)) = (0xC5, 0x00) := by decide
/-- R237 -/
theorem test_swapA : afOf (after .swapA (withAf 0xF1 0xF0)) = (0x1F, 0x00) := by decide
/-- R239 -/
theorem test_srlA : afOf (after .srlA (withAf 0xFF 0x00)) = (0x7F, 0x10) := by decide
/-- R241 -/
theorem test_bit7A : (after .bit7A (withAf 0x80 0x10)).f = 0x30 := by decide
/-- R244 -/
theorem test_res0AtHl : busRead 0xC000 (after .res0AtHl (busWrite 0xC000 0xFF (State.reset.setHl 0xC000))) = 0xFE := by decide
/-- R245 -/
theorem test_set3B : (after .set3B (State.reset.setReg .b 0x00)).regs.b = 0x08 := by decide
/-- R285: PREFIX CB with 0x37 is SWAP A. -/
theorem test_prefixCb : (after (.prefixCb 0x37) (withAf 0xF1 0xF0)).regs.a = 0x1F := by decide
/-- R252: not taken, PC is past the three bytes. -/
theorem test_jpNz_not_taken :
    (fun t => (t.pc, t.timer.div)) (stepped (placeInstr [0xC2, 0x34, 0x12] ((withAf 0 0x80).withPc 0xC000))) =
      (0xC003, 3) := by decide
/-- R254, corner case: the target wraps. -/
theorem test_jrE8_wraps : (after (.jrE8 0x20) (State.reset.withPc 0xFFF2)).pc = 0x0012 := by decide
/-- R256 -/
theorem test_callA16 :
    (fun t => (t.pc, t.sp, busRead 0xFFFD t, busRead 0xFFFC t)) (stepped (placeInstr [0xCD, 0x00, 0x02] (State.reset.withPc 0x0150))) =
      (0x0200, 0xFFFC, 0x01, 0x53) := by decide
/-- R259: taken, 5 cycles with the fetch. -/
theorem test_retNz_taken :
    (fun t => (t.sp, t.timer.div)) (stepped (placeInstr [0xC0] ((withAf 0 0x00).withSp 0xD000))) = (0xD002, 5) := by decide
/-- R260 -/
theorem test_reti :
    (fun t => (t.pc, t.sp, t.ime)) (after .reti (busWrite 0xFFFD 0x12 (busWrite 0xFFFC 0x34 (State.reset.withSp 0xFFFC)))) =
      (0x1234, 0xFFFE, true) := by decide
/-- R261 -/
theorem test_rst28 :
    (fun t => (t.pc, t.sp, busRead 0xFFFD t, busRead 0xFFFC t)) (after .rst28 (State.reset.withPc 0xC001)) =
      (0x0028, 0xFFFC, 0xC0, 0x01) := by decide

/-! ## Steps -/

/-- R280, R350: after construction the first step fetches at the entry point; a backing store of zeros is NOPs. -/
theorem test_first_step : (fun t => (t.pc, t.timer.div)) (stepped State.reset) = (0x0101, 1) := by decide
/-- R281: a pending interrupt with IME = 0 wakes the core at once. -/
theorem test_halt_wakes :
    (fun t => (t.halted, t.pc)) (stepped (placeInstr [0x76] ((State.reset.withIe 0x04).withIntFlags 0x04))) =
      (false, 0x0101) := by decide
/-- R282 -/
theorem test_stop_step :
    (fun t => (t.stopped, t.fault, t.pc)) (stepped (placeInstr [0x10, 0x00] (State.reset.withPc 0xC000))) =
      (true, some { kind := .executeFailure, opcode := 0x10, pc := 0xC000 }, 0xC001) := by decide
/-- R286 -/
theorem test_illegal_step :
    (fun t => (t.stopped, t.fault)) (stepped (placeInstr [0xDD] (State.reset.withPc 0xC000))) =
      (true, some { kind := .decodeFailure, opcode := 0xDD, pc := 0xC000 }) := by decide
/-- R284: the EI step dispatches nothing and leaves IME set. -/
theorem test_ei_step :
    (fun t => (t.ime, t.pc, t.intFlags)) (stepped (placeInstr [0xFB] ((State.reset.withIe 0x01).withIntFlags 0x01))) =
      (true, 0x0101, 0x01) := by decide
/-- R283: no interrupt is taken at the end of the DI step. -/
theorem test_di_step :
    (fun t => (t.ime, t.pc)) (stepped (placeInstr [0xF3] (((State.reset.withIme true).withIe 0x04).withIntFlags 0x04))) =
      (false, 0x0101) := by decide
/-- R332: the dispatch after a NOP. -/
theorem test_dispatch_step :
    (fun t => (t.pc, t.sp, t.intFlags, t.ime, t.timer.div))
      (stepped (placeInstr [0x00] ((((State.reset.withPc 0xC000).withIme true).withIe 0x04).withIntFlags 0x04))) =
      (0x0050, 0xFFFC, 0x00, false, 6) := by decide
/-- R332: the lowest bit wins and only it is cleared. -/
theorem test_dispatch_priority :
    (fun t => (t.pc, t.intFlags)) (interruptPhase (((State.reset.withIme true).withIe 0x03).withIntFlags 0x03)) =
      (0x0040, 0x02) := by decide
/-- R359: the second halted step overflows TIMA and dispatches the timer in 6 cycles. -/
theorem test_halted_step_dispatches :
    (fun t => (t.pc, t.halted, t.timer.div))
      (stepped ((((State.reset.withHalted true).withIme true).withIe 0x04).withTimer
        { div := 0x000F, tima := 0xFF, tma := 0x00, tac := 0b101 })) = (0x0050, false, 0x0015) := by decide
set_option maxRecDepth 4000 in
/-- R332: `advance(16)` increments TIMA once, `advance(8)` not at all. -/
theorem test_advance :
    (advance 16 (State.reset.withTimer { div := 0, tima := 0, tma := 0, tac := 0b101 })).timer.tima = 1 ∧
    (advance 8 (State.reset.withTimer { div := 0, tima := 0, tma := 0, tac := 0b101 })).timer.tima = 0 := ⟨rfl, rfl⟩
/-- R332: a DIV write with the selected bit set increments TIMA. -/
theorem test_div_write :
    (busWrite 0xFF04 0x55 (State.reset.withTimer { div := 0x0008, tima := 7, tma := 0, tac := 0b101 })).timer =
      { div := 0, tima := 8, tma := 0, tac := 0b101 } := by decide
/-- R319, R356: a TIMA write in the cycle of its overflow replaces the reloaded value, and the request stays. -/
theorem test_tima_write_over_overflow :
    (fun t => (t.timer.tima, t.intFlags)) (memWrite 0xFF05 0x77
      (State.reset.withTimer { div := 0x000F, tima := 0xFF, tma := 0x05, tac := 0b101 })) = (0x77, 0x04) := by decide
/-- D34 of R305: a pushed byte on IF does not keep the dispatched bit. -/
theorem test_dispatch_push_on_if :
    (dispatch .timer ((State.reset.withSp 0xFF11).withPc 0xC0FF)).intFlags = 0xFB ∧
    (dispatch .timer ((State.reset.withSp 0xFF10).withPc 0xFFC0)).intFlags = 0xFB := by decide
/-- R67: an unimplemented address reads 0 and a write to it changes nothing. -/
theorem test_unimplemented_io : busRead 0xFF50 State.reset = 0x00 ∧ busWrite 0xFF50 0x01 State.reset = State.reset :=
  ⟨rfl, rfl⟩

/-! ## The memory's canonical form -/

theorem test_write_keeps_order : Memory.write (Memory.write [] 5 1) 3 2 = [(3, 2), (5, 1)] := by decide
theorem test_write_of_unlisted_removes : Memory.write [(3, 2), (5, 1)] 3 0 = [(5, 1)] := by decide

/-! ## Witnesses: states and operands that meet the hypotheses of the obligations, clause by clause -/

theorem witness_DecodeInvertsEncode : WellFormed .ldCB = true ∧ WellFormed (.ldHlN16 0x1234) = true := ⟨rfl, rfl⟩
theorem witness_EncodeInvertsDecode : decode [0x3E, 0x05, 0x77] = .ok (.ldAN8 0x05, [0x77]) := rfl
theorem witness_LengthFollowsFromFirstByte :
    decode (0xFA :: [0x34, 0x12]) = .ok (.ldAAtA16 0x1234, []) ∧ decode (0xCB :: [0xFF]) = .ok (.set7A, []) ∧
      decode (0x10 :: [0x00]) = .ok (.stop, [0x00]) := ⟨rfl, rfl, rfl⟩
theorem witness_RegisterLoads : opOf .ldCB = .ldRegReg .c .b ∧ opOf (.ldAN8 0x3C) = .ldRegImm .a 0x3C := ⟨rfl, rfl⟩
theorem witness_MemoryLoads :
    opOf .ldHAtHl = .ldRegAtHl .h ∧ opOf .ldAAtBc = .ldAAtPtr .bc ∧ opOf .ldAAtDe = .ldAAtPtr .de ∧
      opOf (.ldAAtA16 0xFFFF) = .ldAAtA16 0xFFFF ∧ opOf .ldhAAtC = .ldhAAtC ∧ opOf (.ldhAAtA8 0xFF) = .ldhAAtA8 0xFF :=
  ⟨rfl, rfl, rfl, rfl, rfl, rfl⟩
theorem witness_ByteStores :
    opOf .ldAtHlH = .ldAtHlReg .h ∧ opOf (.ldAtHlN8 0x99) = .ldAtHlImm 0x99 ∧ opOf .ldAtBcA = .ldAtPtrA .bc ∧
      opOf .ldAtDeA = .ldAtPtrA .de ∧ opOf (.ldAtA16A 0x0000) = .ldAtA16A 0x0000 ∧ opOf .ldhAtCA = .ldhAtCA ∧
      opOf (.ldhAtA8A 0x00) = .ldhAtA8A 0x00 := ⟨rfl, rfl, rfl, rfl, rfl, rfl, rfl⟩
theorem witness_SteppedHlLoadsAndStores :
    opOf .ldAAtHlInc = .ldAAtHlInc ∧ opOf .ldAAtHlDec = .ldAAtHlDec ∧ opOf .ldAtHlIncA = .ldAtHlIncA ∧
      opOf .ldAtHlDecA = .ldAtHlDecA := ⟨rfl, rfl, rfl, rfl⟩
theorem witness_PairLoadsAndSpStore :
    opOf (.ldSpN16 0xFFFE) = .ldPairImm .sp 0xFFFE ∧ opOf .ldSpHl = .ldSpHl ∧
      opOf (.ldAtA16Sp 0xFFFF) = .ldAtA16Sp 0xFFFF := ⟨rfl, rfl, rfl⟩
theorem witness_PushStoresPair : opOf .pushAf = .push .af := rfl
theorem witness_PopLoadsPair :
    opOf .popBc = .pop .bc ∧ opOf .popDe = .pop .de ∧ opOf .popHl = .pop .hl ∧ opOf .popAf = .pop .af :=
  ⟨rfl, rfl, rfl, rfl⟩
/-- The stack at the top of high RAM, at the bottom of the address space, and across the end of the echo. -/
def stackAt (sp : Word) : State := State.reset.withSp sp
theorem witness_storage_stack :
    (stackAt 0xFFFF).memWf = true ∧
      isStorage ((stackAt 0xFFFF).sp - 1) = true ∧ isStorage ((stackAt 0xFFFF).sp - 2) = true ∧
      isStorage ((stackAt 0x0002).sp - 1) = true ∧ isStorage ((stackAt 0x0002).sp - 2) = true ∧
      isStorage ((stackAt 0xFE00).sp - 1) = true ∧ isStorage ((stackAt 0xFE00).sp - 2) = true := by decide
theorem witness_PopAfterPushRestores :
    State.reset.memWf = true ∧ isStorage (State.reset.sp - 1) = true ∧ isStorage (State.reset.sp - 2) = true := by decide
theorem witness_StackProtocol :
    State.reset.memWf = true ∧ isStorage (State.reset.sp - 1) = true ∧ isStorage (State.reset.sp - 2) = true := by decide
theorem witness_AdditionsSetAccumulatorAndFlags :
    opOf .addAB = .alu .add (.reg .b) ∧ opOf .adcAAtHl = .alu .adc .atHl ∧ opOf (.adcAN8 1) = .alu .adc (.imm 1) :=
  ⟨rfl, rfl, rfl⟩
theorem witness_SubtractionsSetAccumulatorAndFlags :
    opOf .subE = .alu .sub (.reg .e) ∧ opOf .sbcAAtHl = .alu .sbc .atHl ∧ opOf (.cpN8 1) = .alu .cp (.imm 1) :=
  ⟨rfl, rfl, rfl⟩
theorem witness_LogicSetsAccumulatorAndFlags :
    opOf .andL = .alu .and (.reg .l) ∧ opOf .xorAtHl = .alu .xor .atHl ∧ opOf (.orN8 3) = .alu .or (.imm 3) :=
  ⟨rfl, rfl, rfl⟩
theorem witness_IncDecSetByteAndFlags :
    opOf .incA = .inc (.reg .a) ∧ opOf .incAtHl = .inc .atHl ∧ opOf .decL = .dec (.reg .l) ∧ opOf .decAtHl = .dec .atHl :=
  ⟨rfl, rfl, rfl, rfl⟩
theorem witness_DaaCorrects : opOf .daa = .daa := rfl
theorem witness_DaaMakesDecimalArithmetic :
    ((State.reset.setReg .a 0x99).setReg .b 0x00).regs.a = BitVec.ofNat 8 (99 / 10 * 16 + 99 % 10) ∧
      ((State.reset.setReg .a 0x99).setReg .b 0x00).reg .b = BitVec.ofNat 8 (0 / 10 * 16 + 0 % 10) := by decide
theorem witness_CplScfCcfResults : opOf .cpl = .cpl ∧ opOf .scf = .scf ∧ opOf .ccf = .ccf := ⟨rfl, rfl, rfl⟩
theorem witness_PairArithmetic :
    opOf .addHlSp = .addHl .sp ∧ opOf .incSp = .incPair .sp ∧ opOf .decBc = .decPair .bc := ⟨rfl, rfl, rfl⟩
theorem witness_SpDisplacementSums : opOf (.addSpE8 0x80) = .addSpE8 0x80 ∧ opOf (.ldHlSpE8 0x7F) = .ldHlSpE8 0x7F :=
  ⟨rfl, rfl⟩
theorem witness_AccumulatorRotates : opOf .rlca = .rlca ∧ opOf .rrca = .rrca ∧ opOf .rla = .rla ∧ opOf .rra = .rra :=
  ⟨rfl, rfl, rfl, rfl⟩
theorem witness_CbRotates :
    opOf .rlcB = .rot .rlc (.reg .b) ∧ opOf .rrcAtHl = .rot .rrc .atHl ∧ opOf .rlL = .rot .rl (.reg .l) ∧
      opOf .rrA = .rot .rr (.reg .a) ∧ opOf (.prefixCb 0x06) = .rot .rlc .atHl := ⟨rfl, rfl, rfl, rfl, rfl⟩
theorem witness_CbShifts :
    opOf .slaD = .rot .sla (.reg .d) ∧ opOf .sraAtHl = .rot .sra .atHl ∧ opOf .swapA = .rot .swap (.reg .a) ∧
      opOf .srlA = .rot .srl (.reg .a) ∧ opOf (.prefixCb 0x37) = .rot .swap (.reg .a) := ⟨rfl, rfl, rfl, rfl, rfl⟩
theorem witness_BitResSetResults :
    opOf .bit7A = .bit 7 (.reg .a) ∧ opOf .res0AtHl = .res 0 .atHl ∧ opOf .set3B = .set 3 (.reg .b) := ⟨rfl, rfl, rfl⟩
theorem witness_JumpsSetPc :
    opOf (.jpA16 0x0150) = .jp 0x0150 ∧ opOf (.jpNzA16 0x1234) = .jpCc .nz 0x1234 ∧ opOf .jpHl = .jpHl ∧
      opOf (.jrE8 0xFE) = .jr 0xFE ∧ opOf (.jrCE8 0x7F) = .jrCc .c 0x7F := ⟨rfl, rfl, rfl, rfl, rfl⟩
theorem witness_CallsPushAndJump :
    opOf (.callA16 0x0200) = .call 0x0200 ∧ opOf (.callNcA16 0x1234) = .callCc .nc 0x1234 ∧ opOf .rst38 = .rst 7 :=
  ⟨rfl, rfl, rfl⟩
theorem witness_ReturnsPopPc : opOf .ret = .ret ∧ opOf .retZ = .retCc .z ∧ opOf .reti = .reti := ⟨rfl, rfl, rfl⟩
theorem witness_ReturnUndoesCall :
    State.reset.memWf = true ∧ isStorage (State.reset.sp - 1) = true ∧ isStorage (State.reset.sp - 2) = true ∧
      State.reset.cond .z = true := by decide
theorem witness_NopHaltDiEiResults : opOf .nop = .nop ∧ opOf .halt = .halt ∧ opOf .di = .di ∧ opOf .ei = .ei :=
  ⟨rfl, rfl, rfl, rfl⟩
theorem witness_FatalInstructionsRecordReport : opOf .stop = .stop ∧ opOf .illegalD3 = .illegal .xD3 := ⟨rfl, rfl⟩

/-- A core about to fetch the bytes given, at C000. -/
def about (bytes : List Byte) : State := placeInstr bytes (State.reset.withPc 0xC000)
theorem witness_IllegalOpcodeStopsTheCore :
    (about [0xD3]).fetches ∧ busRead (about [0xD3]).pc (advance 1 (about [0xD3])) ∈ illegalBytes ∧
      busRead (about [0xFD]).pc (advance 1 (about [0xFD])) ∈ illegalBytes := by decide
theorem witness_StopStopsTheCore :
    (about [0x10]).fetches ∧ busRead (about [0x10]).pc (advance 1 (about [0x10])) = 0x10 := by decide
theorem witness_OnlyUnmappedOrStopOpcodesStop :
    (about [0x10]).stopped = false ∧ step (about [0x10]) = Host.Outcome.next (stepped (about [0x10])) ∧
      (stepped (about [0x10])).stopped = true := ⟨rfl, rfl, rfl⟩
theorem witness_StepIsTotal : (State.reset.withStopped true).stopped = true := rfl
theorem witness_StepRunsDecodedInstruction :
    (State.reset.withStopped true).stopped = true ∧
      ((State.reset.withHalted true).stopped = false ∧ (State.reset.withHalted true).halted = true) ∧
      State.reset.fetches := by decide
theorem witness_InterruptPhaseRule :
    let s := ((State.reset.withIme true).withIe 0xFF).withIntFlags 0xF0
    (s.ime = true ∧ (s.ie.getLsbD 4 && s.intFlags.getLsbD 4) = true ∧
      ∀ k, k < 4 → (s.ie.getLsbD k && s.intFlags.getLsbD k) = false) ∧
    (let t := s.withIntFlags 0xE0; t.ime = true ∧ ∀ k, k < 5 → (t.ie.getLsbD k && t.intFlags.getLsbD k) = false) ∧
    (let t := s.withIntFlags 0x01; t.ime = true ∧ (t.ie.getLsbD 0 && t.intFlags.getLsbD 0) = true) ∧
    (let t := (State.reset.withImeScheduled true); t.ime = false ∧ t.imeScheduled = true) ∧
    (State.reset.ime = false ∧ State.reset.imeScheduled = false) := by decide
theorem witness_HaltStep :
    (about [0x76]).fetches ∧ (about [0x76]).imeScheduled = false ∧
      busRead (about [0x76]).pc (advance 1 (about [0x76])) = 0x76 ∧
      (∀ k, k < 5 → ((about [0x76]).ie.getLsbD k && (about [0x76]).intFlags.getLsbD k) = false) ∧
      (let s := ((about [0x76]).withIe 0x10).withIntFlags 0x10
       s.ime = false ∧ (s.ie.getLsbD 4 && s.intFlags.getLsbD 4) = true ∧
         busRead s.pc (advance 1 s) = 0x76) ∧
      (let s := (((about [0x76]).withIe 0x01).withIntFlags 0x01).withIme true
       s.ime = true ∧ (s.ie.getLsbD 0 && s.intFlags.getLsbD 0) = true ∧
         busRead s.pc (advance 1 s) = 0x76) := by decide
theorem witness_HaltedStepTicksOnce :
    let s := State.reset.withHalted true
    (s.stopped = false ∧ s.halted = true ∧ s.imeScheduled = false ∧
      ∀ k, k < 5 → ((advance 1 s).ie.getLsbD k && (advance 1 s).intFlags.getLsbD k) = false) ∧
    (let t := (s.withIe 0x04).withIntFlags 0x04
     t.ime = false ∧ ((advance 1 t).ie.getLsbD 2 && (advance 1 t).intFlags.getLsbD 2) = true) := by decide
theorem witness_EiTakesEffectAfterNextInstruction :
    let s := placeBytes [0xFB, 0xF3] 0xC000 (State.reset.withPc 0xC000)
    s.fetches ∧ s.ime = false ∧ busRead s.pc (advance 1 s) = 0xFB ∧
      busRead (s.pc + 1) (advance 2 s) = 0xF3 := by decide
theorem witness_TimerTickRule :
    [9, 3, 5, 7][((0b000 : BitVec 3).extractLsb' 0 2).toNat]? = some 9 ∧
      [9, 3, 5, 7][((0b101 : BitVec 3).extractLsb' 0 2).toNat]? = some 3 ∧
      [9, 3, 5, 7][((0b110 : BitVec 3).extractLsb' 0 2).toNat]? = some 5 ∧
      [9, 3, 5, 7][((0b111 : BitVec 3).extractLsb' 0 2).toNat]? = some 7 ∧
      (0b100 : BitVec 3).getLsbD 2 = true ∧ (0b011 : BitVec 3).getLsbD 2 = false := by decide
theorem witness_TimaIncrementRule :
    (State.reset.withTimer { State.reset.timer with tima := 0xFF }).timer.tima = 0xFF ∧ State.reset.timer.tima ≠ 0xFF := by
  decide
/-- The first and last address of each range of R61: the clauses of MemoryMapRule and IoWindowRule meet nowhere. -/
theorem witness_MemoryMapRule :
    regionOf 0x0000 = .backing 0 ∧ regionOf 0x7FFF = .backing 0x7FFF ∧ regionOf 0x8000 = .filler ∧
      regionOf 0x9FFF = .filler ∧ regionOf 0xA000 = .backing 0xA000 ∧ regionOf 0xBFFF = .backing 0xBFFF ∧
      regionOf 0xC000 = .wram 0 ∧ regionOf 0xDFFF = .wram 0x1FFF ∧ regionOf 0xE000 = .wram 0 ∧
      regionOf 0xFDFF = .wram 0x1DFF ∧ regionOf 0xFE00 = .filler ∧ regionOf 0xFEFF = .filler ∧
      regionOf 0xFF80 = .hram 0 ∧ regionOf 0xFFFE = .hram 0x7E ∧ regionOf 0xFFFF = .ie := by decide
theorem witness_IoWindowRule :
    regionOf 0xFF00 = .io .unimplemented ∧ regionOf 0xFF7F = .io .unimplemented ∧
      (0xFF00 : Word) ∉ ([0xFF01, 0xFF02, 0xFF04, 0xFF05, 0xFF06, 0xFF07, 0xFF0F] : List Word) ∧
      (0xFF7F : Word) ∉ ([0xFF01, 0xFF02, 0xFF04, 0xFF05, 0xFF06, 0xFF07, 0xFF0F] : List Word) := by decide
theorem witness_ReadReturnsLastWrite :
    State.reset.memWf = true ∧ isStorage 0xE000 = true ∧ samePlace 0xE000 0xC000 ∧ samePlace 0xDDFF 0xFDFF ∧
      isStorage 0xDE00 = true ∧ ¬ samePlace 0xDE00 0xFE00 := by decide
theorem witness_RegisterFrame :
    exec .ldCB State.reset = Host.Outcome.next (after .ldCB State.reset) ∧ Reg8.b ∉ writesRegs (opOf .ldCB) :=
  ⟨rfl, by decide⟩
theorem witness_FlagOutcomes : exec .ccf State.reset = Host.Outcome.next (after .ccf State.reset) := rfl
theorem witness_ControlFrame :
    exec .ldCB State.reset = Host.Outcome.next (after .ldCB State.reset) ∧ writesSp (opOf .ldCB) = false ∧
      writesPc (opOf .ldCB) = false ∧ opOf .ldCB ≠ .di ∧ opOf .ldCB ≠ .reti ∧ opOf .ldCB ≠ .ei ∧ opOf .ldCB ≠ .halt ∧
      opOf .ldCB ≠ .stop ∧ ∀ x, opOf .ldCB ≠ .illegal x :=
  ⟨rfl, rfl, rfl, by decide, by decide, by decide, by decide, by decide, by intro x; cases x <;> decide⟩
theorem pushBc_storeAddrs : storeAddrs (opOf .pushBc) State.reset = [0xFFFD, 0xFFFC] := rfl
theorem witness_MemoryFrame :
    (∃ t, exec .pushBc State.reset = Host.Outcome.next t) ∧
      (∀ a, a ∈ storeAddrs (opOf .pushBc) State.reset → ¬ samePlace 0xFFFE a) ∧
      (∀ a, a ∈ storeAddrs (opOf .pushBc) State.reset → ¬ samePlace 0xFFFB a) ∧
      regionOf 0x8000 = .filler ∧ regionOf 0xFF03 = .io .unimplemented := by
  rw [pushBc_storeAddrs]
  refine ⟨⟨_, exec_eq .pushBc State.reset⟩, ?_, ?_, rfl, rfl⟩ <;> intro a ha <;>
    simp only [List.mem_cons, List.not_mem_nil, or_false] at ha <;> rcases ha with rfl | rfl <;> decide
theorem witness_TimerFrame :
    (∃ t, exec .pushBc State.reset = Host.Outcome.next t) ∧
      ∀ a, a ∈ storeAddrs (opOf .pushBc) State.reset →
        a ∉ ([0xFF04, 0xFF05, 0xFF06, 0xFF07, 0xFF0F] : List Word) := by
  rw [pushBc_storeAddrs]
  refine ⟨⟨_, exec_eq .pushBc State.reset⟩, ?_⟩
  intro a ha
  simp only [List.mem_cons, List.not_mem_nil, or_false] at ha
  rcases ha with rfl | rfl <;> decide
theorem witness_StepKeepsInvariant :
    (State.reset.withPc 0xC000).Inv ∧
      step (State.reset.withPc 0xC000) = Host.Outcome.next (stepped (State.reset.withPc 0xC000)) :=
  ⟨⟨reset_memWf, rfl, rfl, fun h => absurd h (by decide), fun r h => by cases h⟩, rfl⟩

end Sys2Proof.Machine.Tests
end

section
/-! The register views of R21 to R23: a pair as a number, and F and AF with the low nibble of F masked. -/

namespace Sys2Proof.Machine

/-- `{hi, lo}` as a number (R8). -/
theorem toNat_ofHiLo (hi lo : Byte) : (ofHiLo hi lo).toNat = hi.toNat * 256 + lo.toNat := by
  rw [ofHiLo, BitVec.toNat_append, ← Nat.shiftLeft_add_eq_or_of_lt lo.isLt, Nat.shiftLeft_eq]

/-- A mask of a word masks its two bytes. -/
theorem ofHiLo_and (a b c d : Byte) : ofHiLo a b &&& ofHiLo c d = ofHiLo (a &&& c) (b &&& d) := by
  apply BitVec.eq_of_getLsbD_eq
  intro k _
  simp only [BitVec.getLsbD_and, getLsbD_ofHiLo]
  split <;> rfl

/-- A byte written to F reads back with its low nibble masked away (R23). -/
theorem flagsToByte_flagsOfByte (v : Byte) : flagsToByte (flagsOfByte v) = v &&& 0xF0 := by
  revert v; decide

/-- The flags are bits 7 to 4 of F, and its low nibble is 0 (R23, R26). -/
theorem flagsToByte_bits (fl : Flags) :
    (flagsToByte fl).getLsbD 7 = fl.z ∧ (flagsToByte fl).getLsbD 6 = fl.n ∧ (flagsToByte fl).getLsbD 5 = fl.h ∧
      (flagsToByte fl).getLsbD 4 = fl.c ∧ flagsToByte fl &&& 0x0F = 0 := by
  obtain ⟨z, n, h, c⟩ := fl
  revert z n h c
  decide

/-- F after a write of AF: the low byte with its low nibble masked away (R22). -/
theorem f_setAf (s : State) (v : Word) : (s.setAf v).f = loByte v &&& 0xF0 :=
  flagsToByte_flagsOfByte (loByte v)

/-- AF reads back with the low nibble of F masked away (R22). -/
theorem af_setAf (s : State) (v : Word) : (s.setAf v).af = v &&& 0xFFF0 :=
  calc (s.setAf v).af
    _ = ofHiLo (hiByte v &&& 0xFF) (loByte v &&& 0xF0) := by
        rw [State.af, f_setAf, show (0xFF : Byte) = BitVec.allOnes 8 from rfl, BitVec.and_allOnes]; rfl
    _ = ofHiLo (hiByte v) (loByte v) &&& ofHiLo 0xFF 0xF0 := (ofHiLo_and ..).symm
    _ = v &&& 0xFFF0 := by rw [ofHiLo_hiByte_loByte]; rfl

/-- A write of AF changes no register but A (R22). -/
theorem reg_setAf_ne {y : Reg8} (hy : y ≠ .a) (s : State) (v : Word) : (s.setAf v).reg y = s.reg y := by
  cases y with
  | a => exact absurd rfl hy
  | _ => rfl

end Sys2Proof.Machine

open Sys2Proof Sys2Proof.Machine

/-- Settles O7: each view is two bytes of the register file, so it reads back byte by byte. -/
theorem registerViewsReadBack : Obligations.RegisterViewsReadBack := by
  intro s v w r x
  have views : s.af.toNat = s.regs.a.toNat * 256 + s.f.toNat ∧ s.bc.toNat = s.regs.b.toNat * 256 + s.regs.c.toNat ∧
      s.de.toNat = s.regs.d.toNat * 256 + s.regs.e.toNat ∧ s.hl.toNat = s.regs.h.toNat * 256 + s.regs.l.toNat :=
    ⟨toNat_ofHiLo .., toNat_ofHiLo .., toNat_ofHiLo .., toNat_ofHiLo ..⟩
  exact ⟨reg_setReg s r x w, views, ⟨rfl, rfl, rfl⟩, ⟨bc_setBc s v, de_setDe s v, hl_setHl s v, rfl⟩,
    rfl, f_setAf s v, af_setAf s v, rfl, fun _ hy => reg_setAf_ne hy s v⟩

/-- Settles O8: F is a function of the four flag bits, and a write keeps only those. -/
theorem flagByteMasksLowNibble : Obligations.FlagByteMasksLowNibble :=
  fun s v => ⟨flagsToByte_bits s.flags, flagsToByte_flagsOfByte v⟩
end

section
/-! The flag outcomes of R27: what each flag computation does to each flag, and which instructions keep F whole. -/

namespace Sys2Proof.Machine

/-- All four flags obey their outcomes. -/
def FlagRules.obeyed (rules : FlagRules) (before after : Flags) : Prop :=
  rules.z.obeyed before.z after.z ∧ rules.n.obeyed before.n after.n ∧ rules.h.obeyed before.h after.h ∧
    rules.c.obeyed before.c after.c

/-- The outcome of an instruction that leaves F alone. -/
def FlagRules.keepAll : FlagRules := ⟨.keep, .keep, .keep, .keep⟩

theorem FlagRules.keepAll_obeyed {before after : Flags} (h : after = before) : keepAll.obeyed before after := by
  subst h
  exact ⟨rfl, rfl, rfl, rfl⟩

theorem aluCompute_flags_obeyed (op : AluOp) (a b : Byte) (cin : Bool) (before : Flags) :
    (aluFlagRules op).obeyed before (aluCompute op a b cin).2 := by
  cases op <;> simp [FlagRules.obeyed, FlagRule.obeyed, aluFlagRules, aluCompute, add8, sub8, and8, xor8, or8]

theorem daa8_flags_obeyed (a : Byte) (old : Flags) :
    (flagRules .daa).obeyed old (daa8 a old).2 := by
  unfold daa8
  split <;> simp [FlagRules.obeyed, FlagRule.obeyed, flagRules]

theorem rotCompute_flags_obeyed (op : RotOp) (x : Loc8) (v : Byte) (cin : Bool) (before : Flags) :
    (flagRules (.rot op x)).obeyed before (rotFlags (rotCompute op v cin).1 (rotCompute op v cin).2) := by
  cases op <;> simp [FlagRules.obeyed, FlagRule.obeyed, flagRules, rotFlags, rotCompute]

/-- Only a pop of AF changes F (R143, R144). -/
theorem setStackPair_flags_obeyed (rr : StackPair) (v : Word) (s : State) :
    (popFlagRules rr).obeyed s.flags (s.setStackPair rr v).flags := by
  cases rr with
  | af => exact ⟨trivial, trivial, trivial, trivial⟩
  | _ => exact FlagRules.keepAll_obeyed rfl

@[simp] theorem loadByteOp_flags (dst : Reg8) (a : Word) (s : State) : (loadByteOp dst a s).flags = s.flags := by
  simp [loadByteOp]
@[simp] theorem callTo_flags (target : Word) (s : State) : (callTo target s).flags = s.flags := by simp [callTo]
@[simp] theorem retOp_flags (s : State) : (retOp s).flags = s.flags := by simp [retOp]
@[simp] theorem readLoc_flags (x : Loc8) (s : State) : (readLoc x s).2.flags = s.flags := by simp [readLoc_eq]
@[simp] theorem writeLoc_flags (x : Loc8) (v : Byte) (s : State) : (writeLoc x v s).flags = s.flags := by
  simp [writeLoc_eq]

/-- Every instruction leaves each flag with the outcome of its rule: the four components stand in the order Z N H C. -/
theorem execForm_flags_obeyed (form : Form) (hform : ∀ sub, form ≠ .prefixCb sub) (s : State) :
    (flagRules form).obeyed s.flags (execForm form s).flags := by
  cases form with
  | prefixCb sub => exact absurd rfl (hform sub)
  | daa => exact daa8_flags_obeyed _ _
  | cpl | scf => exact ⟨rfl, rfl, rfl, rfl⟩
  | ccf | rlca | rrca | rla | rra => exact ⟨rfl, rfl, rfl, trivial⟩
  | ldHlSpE8 _ | addSpE8 _ | addHl _ => exact ⟨rfl, rfl, trivial, trivial⟩
  | alu op src => exact aluCompute_flags_obeyed op _ _ _ _
  | rot op x => exact rotCompute_flags_obeyed op x _ _ _
  | inc x | dec x =>
    have carry := congrArg Flags.c (readLoc_flags x s)
    exact ⟨trivial, rfl, trivial, carry⟩
  | bit b x =>
    have carry := congrArg Flags.c (readLoc_flags x s)
    exact ⟨trivial, rfl, rfl, carry⟩
  | pop rr =>
    have popped := setStackPair_flags_obeyed rr (pop16 s).1 (pop16 s).2
    rwa [pop16_snd_flags] at popped
  | nop | halt | stop | di | ei | illegal op | jpHl => exact FlagRules.keepAll_obeyed rfl
  | ldRegReg _ _ | ldRegImm _ _ => exact FlagRules.keepAll_obeyed (setReg_flags ..)
  | ldRegAtHl _ | ldAAtPtr _ | ldAAtA16 _ | ldhAAtC | ldhAAtA8 _ | ldAAtHlInc | ldAAtHlDec =>
    exact FlagRules.keepAll_obeyed (loadByteOp_flags ..)
  | ldAtHlReg _ | ldAtHlImm _ | ldAtPtrA _ | ldAtA16A _ | ldhAtCA | ldhAtA8A _ | ldAtHlIncA | ldAtHlDecA =>
    exact FlagRules.keepAll_obeyed (memWrite_flags ..)
  | ldAtA16Sp a16 => exact FlagRules.keepAll_obeyed (by simp [execForm, ldAtA16SpOp, memWrite16])
  | ldPairImm _ _ => exact FlagRules.keepAll_obeyed (setPair_flags ..)
  | incPair rr | decPair rr => exact FlagRules.keepAll_obeyed (by simp [execForm, incPairOp, decPairOp])
  | ldSpHl | jp _ | jr _ => exact FlagRules.keepAll_obeyed (advance_flags 1 s)
  | push rr => exact FlagRules.keepAll_obeyed (by simp [execForm, pushOp])
  | res b x | set b x => exact FlagRules.keepAll_obeyed (by simp [execForm, resOp, setOp])
  | call _ | rst _ => exact FlagRules.keepAll_obeyed (callTo_flags ..)
  | ret => exact FlagRules.keepAll_obeyed (retOp_flags s)
  | reti => exact FlagRules.keepAll_obeyed (retOp_flags s)
  | jpCc cc _ | jrCc cc _ =>
    apply FlagRules.keepAll_obeyed
    simp only [execForm, jpCcOp, jrCcOp]
    split
    · exact advance_flags 1 s
    · rfl
  | callCc cc a16 =>
    apply FlagRules.keepAll_obeyed
    simp only [execForm, callCcOp]
    split
    · exact callTo_flags a16 s
    · rfl
  | retCc cc =>
    apply FlagRules.keepAll_obeyed
    simp only [execForm, retCcOp]
    split <;> simp

end Sys2Proof.Machine

open Sys2Proof Sys2Proof.Machine

/-- Settles O54: the outcomes of the instruction's form, PREFIX CB resolved; and CCF's own computation of C. -/
theorem flagOutcomes : Obligations.FlagOutcomes := by
  intro i s t hexec
  rw [exec_op] at hexec
  cases hexec
  obtain ⟨z, n, h, c⟩ := execForm_flags_obeyed (opOf i) (opOf_ne_prefixCb i) s
  refine ⟨z, n, h, c, fun hccf => ?_⟩
  rw [hccf]
  rfl
end

section
/-! What an instruction may change of SP, PC and the control bits. `ControlKept form s t` is the frame's statement for
one form; each update the shared operations are built from keeps it, a guarded update with the reason the rule allows it. -/

namespace Sys2Proof.Machine

/-- From `s` to `t`, SP, PC and the control bits changed only where the rule of `form` writes them
(R24, R25, R28, R29, R30, R41). -/
structure ControlKept (form : Form) (s t : State) : Prop where
  sp : writesSp form = false → t.sp = s.sp
  pc : writesPc form = false → t.pc = s.pc
  ime : form ≠ .di → form ≠ .reti → t.ime = s.ime
  latch : form ≠ .ei → t.imeScheduled = s.imeScheduled
  halted : form ≠ .halt → t.halted = s.halted
  run : form ≠ .stop → (∀ x, form ≠ .illegal x) → t.stopped = s.stopped ∧ t.fault = s.fault

namespace ControlKept
variable {form : Form} {s t : State}

theorem refl (form : Form) (s : State) : ControlKept form s s :=
  ⟨fun _ => rfl, fun _ => rfl, fun _ _ => rfl, fun _ => rfl, fun _ => rfl, fun _ _ => ⟨rfl, rfl⟩⟩

/-! ## Updates that every form may make -/

/-- A state that agrees with `t` on SP, PC and the control bits is kept as `t` is. -/
theorem congr {u : State} (h : ControlKept form s t) (hsp : u.sp = t.sp) (hpc : u.pc = t.pc) (hime : u.ime = t.ime)
    (hlatch : u.imeScheduled = t.imeScheduled) (hhalted : u.halted = t.halted) (hstopped : u.stopped = t.stopped)
    (hfault : u.fault = t.fault) : ControlKept form s u := by
  obtain ⟨sp, pc, ime, latch, halted, run⟩ := h
  rw [← hstopped, ← hfault] at run
  exact ⟨hsp ▸ sp, hpc ▸ pc, hime ▸ ime, hlatch ▸ latch, hhalted ▸ halted, run⟩

theorem withRegs (h : ControlKept form s t) (v : Regs) : ControlKept form s (t.withRegs v) :=
  h.congr rfl rfl rfl rfl rfl rfl rfl
theorem withFlags (h : ControlKept form s t) (v : Flags) : ControlKept form s (t.withFlags v) :=
  h.congr rfl rfl rfl rfl rfl rfl rfl
theorem setReg (h : ControlKept form s t) (r : Reg8) (v : Byte) : ControlKept form s (t.setReg r v) := by
  cases r <;> exact h.withRegs _
theorem setStackPair (h : ControlKept form s t) (p : StackPair) (v : Word) :
    ControlKept form s (t.setStackPair p v) := by
  apply h.congr <;> simp
theorem advance (h : ControlKept form s t) (n : Nat) : ControlKept form s (advance n t) := by
  apply h.congr <;> simp
theorem busWrite (h : ControlKept form s t) (a : Word) (v : Byte) : ControlKept form s (busWrite a v t) := by
  apply h.congr <;> simp
theorem memWrite (h : ControlKept form s t) (a : Word) (v : Byte) : ControlKept form s (memWrite a v t) :=
  (h.advance 1).busWrite a v
theorem loadByteOp (h : ControlKept form s t) (dst : Reg8) (a : Word) : ControlKept form s (loadByteOp dst a t) :=
  (h.advance 1).setReg dst _
theorem readLoc (h : ControlKept form s t) (x : Loc8) : ControlKept form s (readLoc x t).2 := by
  cases x with
  | reg r => exact h
  | atHl => exact h.advance 1
theorem readSrc (h : ControlKept form s t) (src : AluSrc) : ControlKept form s (readSrc src t).2 := by
  cases src with
  | reg r => exact h
  | atHl => exact h.advance 1
  | imm n8 => exact h
theorem writeLoc (h : ControlKept form s t) (x : Loc8) (v : Byte) : ControlKept form s (writeLoc x v t) := by
  cases x with
  | reg r => exact h.setReg r v
  | atHl => exact h.memWrite _ v

/-! ## Updates that a form makes only where its rule says so -/

theorem withSp (h : ControlKept form s t) (w : writesSp form = true) (v : Word) : ControlKept form s (t.withSp v) :=
  ⟨fun e => by simp [w] at e, h.pc, h.ime, h.latch, h.halted, h.run⟩
theorem withPc (h : ControlKept form s t) (w : writesPc form = true) (v : Word) : ControlKept form s (t.withPc v) :=
  ⟨h.sp, fun e => by simp [w] at e, h.ime, h.latch, h.halted, h.run⟩
theorem withIme (h : ControlKept form s t) (w : form = .di ∨ form = .reti) (v : Bool) :
    ControlKept form s (t.withIme v) :=
  ⟨h.sp, h.pc, fun hdi hreti => (w.elim hdi hreti).elim, h.latch, h.halted, h.run⟩
theorem withImeScheduled (h : ControlKept form s t) (w : form = .ei) (v : Bool) :
    ControlKept form s (t.withImeScheduled v) :=
  ⟨h.sp, h.pc, h.ime, fun hei => absurd w hei, h.halted, h.run⟩
theorem withHalted (h : ControlKept form s t) (w : form = .halt) (v : Bool) : ControlKept form s (t.withHalted v) :=
  ⟨h.sp, h.pc, h.ime, h.latch, fun hhalt => absurd w hhalt, h.run⟩
theorem fatal (h : ControlKept form s t) (w : form = .stop ∨ ∃ x, form = .illegal x) (kind : FaultKind) (op : Byte)
    (pc0 : Word) : ControlKept form s (fatal kind op pc0 t) :=
  ⟨h.sp, h.pc, h.ime, h.latch, h.halted, fun hstop hillegal => by
    obtain hs | ⟨x, hx⟩ := w
    · exact absurd hs hstop
    · exact absurd hx (hillegal x)⟩

theorem setPair (h : ControlKept form s t) {p : Pair} (w : p = .sp → writesSp form = true) (v : Word) :
    ControlKept form s (t.setPair p v) := by
  cases p with
  | sp => exact h.withSp (w rfl) v
  | _ => exact h.withRegs _
theorem push16 (h : ControlKept form s t) (w : writesSp form = true) (v : Word) :
    ControlKept form s (push16 v t) := by
  rw [push16_eq]
  exact ((((h.advance 1).busWrite _ _).advance 1).busWrite _ _).withSp w _
theorem pop16 (h : ControlKept form s t) (w : writesSp form = true) : ControlKept form s (pop16 t).2 := by
  rw [pop16_eq]
  exact (h.advance 2).withSp w _

theorem callTo (h : ControlKept form s t) (wsp : writesSp form = true) (wpc : writesPc form = true) (target : Word) :
    ControlKept form s (callTo target t) :=
  ((h.advance 1).push16 wsp _).withPc wpc _
theorem retOp (h : ControlKept form s t) (wsp : writesSp form = true) (wpc : writesPc form = true) :
    ControlKept form s (retOp t) :=
  ((h.pop16 wsp).advance 1).withPc wpc _

end ControlKept

/-- Every instruction writes SP, PC and the control bits only where its rule says so. -/
theorem execForm_controlKept (form : Form) (hform : ∀ sub, form ≠ .prefixCb sub) (s : State) :
    ControlKept form s (execForm form s) := by
  have same := ControlKept.refl form s
  cases form with
  | prefixCb sub => exact absurd rfl (hform sub)
  | nop => exact same
  | halt => exact same.withHalted rfl _
  | stop => exact same.fatal (.inl rfl) _ _ _
  | di => exact same.withIme (.inl rfl) _
  | ei => exact same.withImeScheduled rfl _
  | illegal op => exact same.fatal (.inr ⟨op, rfl⟩) _ _ _
  | daa | cpl | rlca | rrca | rla | rra => exact (same.setReg _ _).withFlags _
  | scf | ccf => exact same.withFlags _
  | ldRegReg dst src | ldRegImm dst n8 => exact same.setReg _ _
  | ldRegAtHl dst => exact same.loadByteOp dst _
  | ldAAtPtr _ | ldAAtA16 _ | ldhAAtC | ldhAAtA8 _ => exact same.loadByteOp .a _
  | ldAtHlReg _ | ldAtHlImm _ | ldAtPtrA _ | ldAtA16A _ | ldhAtCA | ldhAtA8A _ => exact same.memWrite _ _
  | ldAAtHlInc | ldAAtHlDec => exact (same.loadByteOp _ _).withRegs _
  | ldAtHlIncA | ldAtHlDecA => exact (same.memWrite _ _).withRegs _
  | ldAtA16Sp a16 => exact (same.memWrite _ _).memWrite _ _
  | ldPairImm rr n16 => exact same.setPair decide_eq_true _
  | incPair rr | decPair rr => exact (same.advance 1).setPair decide_eq_true _
  | ldSpHl => exact (same.advance 1).withSp rfl _
  | ldHlSpE8 _ | addHl _ => exact ((same.advance 1).withRegs _).withFlags _
  | addSpE8 e8 => exact (((same.advance 1).advance 1).withSp rfl _).withFlags _
  | push rr => exact (same.advance 1).push16 rfl _
  | pop rr => exact (same.pop16 rfl).setStackPair _ _
  | alu op src =>
    have read := same.readSrc src
    cases op with
    | cp => exact read.withFlags _
    | _ => exact (read.setReg .a _).withFlags _
  | inc x | dec x | rot _ x => exact ((same.readLoc x).writeLoc x _).withFlags _
  | bit b x => exact (same.readLoc x).withFlags _
  | res b x | set b x => exact (same.readLoc x).writeLoc x _
  | jp _ | jr _ => exact (same.advance 1).withPc rfl _
  | jpHl => exact same.withPc rfl _
  | jpCc cc _ | jrCc cc _ =>
    simp only [execForm, jpCcOp, jrCcOp]
    split
    · exact (same.advance 1).withPc rfl _
    · exact same
  | call _ | rst _ => exact same.callTo rfl rfl _
  | callCc cc a16 =>
    simp only [execForm, callCcOp]
    split
    · exact same.callTo rfl rfl _
    · exact same
  | ret => exact same.retOp rfl rfl
  | retCc cc =>
    simp only [execForm, retCcOp]
    split
    · exact (same.advance 1).retOp rfl rfl
    · exact same.advance 1
  | reti => exact (same.retOp rfl rfl).withIme (.inr rfl) _

end Sys2Proof.Machine

open Sys2Proof Sys2Proof.Machine

/-- Settles O55: the frame of the instruction's form, PREFIX CB resolved. -/
theorem controlFrame : Obligations.ControlFrame := by
  intro i s t hexec
  rw [exec_op] at hexec
  cases hexec
  obtain ⟨sp, pc, ime, latch, halted, run⟩ := execForm_controlKept (opOf i) (opOf_ne_prefixCb i) s
  exact ⟨sp, pc, ime, latch, halted, run⟩
end

section
/-! The invariant of a step boundary: memory stays canonical through every operation, the interrupt phase clears EI's
latch, and a report is made only by STOP and the illegal opcodes, whose step has no interrupt phase. -/

namespace Sys2Proof.Machine

/-! ## Canonical memory and the fetch -/

theorem execForm_memWf (form : Form) (hform : ∀ sub, form ≠ .prefixCb sub) {s : State} (h : s.memWf = true) :
    (execForm form s).memWf = true := by
  rw [(execForm_bus form hform s).memWf]
  exact runAccesses_memWf h

theorem dispatch_memWf (i : IntSource) {s : State} (h : s.memWf = true) : (dispatch i s).memWf = true := by
  have pushed : (advance 1 (push16 s.pc (advance 2 s))).memWf = true := by
    rw [advance_memWf]
    exact push16_memWf (by simpa using h)
  simpa [dispatch, advance_advance, State.memWf] using pushed

@[simp] theorem afterFetch_memWf (n : Nat) (s : State) : (afterFetch n s).memWf = s.memWf :=
  memWf_of_arrays (by simp [afterFetch]) (by simp [afterFetch]) (by simp [afterFetch])

@[simp] theorem afterFetch_imeScheduled (n : Nat) (s : State) : (afterFetch n s).imeScheduled = s.imeScheduled := by
  simp [afterFetch]
@[simp] theorem afterFetch_halted (n : Nat) (s : State) : (afterFetch n s).halted = s.halted := by simp [afterFetch]
@[simp] theorem afterFetch_stopped (n : Nat) (s : State) : (afterFetch n s).stopped = s.stopped := by simp [afterFetch]
@[simp] theorem afterFetch_fault (n : Nat) (s : State) : (afterFetch n s).fault = s.fault := by simp [afterFetch]

/-! ## The interrupt phase -/

@[simp] theorem dispatch_stopped (i : IntSource) (s : State) : (dispatch i s).stopped = s.stopped := by
  simp [dispatch]
@[simp] theorem dispatch_fault (i : IntSource) (s : State) : (dispatch i s).fault = s.fault := by
  simp [dispatch]

theorem State.withHalted_eq_self {s : State} {v : Bool} (h : s.halted = v) : s.withHalted v = s := by
  subst h
  rfl
theorem State.withIme_eq_self {s : State} {v : Bool} (h : s.ime = v) : s.withIme v = s := by
  subst h
  rfl
theorem State.withImeScheduled_eq_self {s : State} {v : Bool} (h : s.imeScheduled = v) :
    s.withImeScheduled v = s := by
  subst h
  rfl

/-- The halt wake (R308) clears `halted` exactly when an enabled source is pending. -/
theorem haltWake_eq (s : State) : (if s.halted && decide (pending s ≠ 0) then s.withHalted false else s) =
    s.withHalted (s.halted && decide (pending s = 0)) := by
  cases hhalted : s.halted with
  | false => exact (State.withHalted_eq_self hhalted).symm
  | true =>
    by_cases hpending : pending s = 0
    · rw [hpending]
      exact (State.withHalted_eq_self hhalted).symm
    · simp only [hpending, ne_eq, not_false_eq_true, decide_true, decide_false, Bool.and_true, Bool.and_false, if_true]

/-- The promotion (R307) of EI's latch, from IME clear, moves the latch to IME. -/
theorem latchPromotion_eq {s : State} (hime : s.ime = false) :
    (if s.imeScheduled then (s.withIme true).withImeScheduled false else s) =
      (s.withIme s.imeScheduled).withImeScheduled false := by
  cases hlatch : s.imeScheduled with
  | true => rfl
  | false =>
    rw [State.withIme_eq_self hime, State.withImeScheduled_eq_self hlatch]
    rfl

/-- Everything the interrupt phase can do (R303): dispatch the lowest pending source, find none pending, or, with IME
clear, wake a halted core (R308) and promote EI's latch to IME (R307). -/
theorem interruptPhase_cases (s : State) :
    (s.ime = true ∧ ∃ i, lowestPending (pending s) = some i ∧
      interruptPhase s = (dispatch i s).withImeScheduled false) ∨
    (s.ime = true ∧ lowestPending (pending s) = none ∧ interruptPhase s = s.withImeScheduled false) ∨
    (s.ime = false ∧ interruptPhase s =
      ((s.withHalted (s.halted && decide (pending s = 0))).withIme s.imeScheduled).withImeScheduled false) := by
  cases hime : s.ime with
  | true =>
    cases hlow : lowestPending (pending s) with
    | some i => exact .inl ⟨rfl, i, rfl, by simp [interruptPhase, hime, hlow]⟩
    | none => exact .inr (.inl ⟨rfl, rfl, by simp [interruptPhase, hime, hlow]⟩)
  | false =>
    refine .inr (.inr ⟨rfl, ?_⟩)
    have promoted := latchPromotion_eq (s := s.withHalted (s.halted && decide (pending s = 0))) hime
    simp only [interruptPhase, hime, haltWake_eq, Bool.false_eq_true, if_false]
    exact promoted

/-- A running core with canonical memory and the latch clear is at a step boundary: it has no report to make. -/
theorem State.Inv.of_running {s : State} (hmem : s.memWf = true) (hlatch : s.imeScheduled = false)
    (hstopped : s.stopped = false) (hfault : s.fault = none) : s.Inv :=
  ⟨hmem, hlatch, by simp [hstopped, hfault], by simp [hstopped], by simp [hfault]⟩

/-- The interrupt phase of a core that is not stopped leaves a step boundary. -/
theorem interruptPhase_inv {s : State} (hmem : s.memWf = true) (hstopped : s.stopped = false)
    (hfault : s.fault = none) : (interruptPhase s).Inv := by
  obtain ⟨-, i, -, h⟩ | ⟨-, -, h⟩ | ⟨-, h⟩ := interruptPhase_cases s <;> rw [h]
  · exact .of_running (dispatch_memWf i hmem) rfl (by simp [hstopped]) (by simp [hfault])
  · exact .of_running hmem rfl hstopped hfault
  · exact .of_running hmem rfl hstopped hfault

/-! ## The step -/

/-- A legal report in a core that is awake, with the latch clear, leaves a step boundary. -/
theorem fatal_inv {s : State} {kind : FaultKind} {op : Byte} {pc0 : Word} (hmem : s.memWf = true)
    (hlatch : s.imeScheduled = false) (hhalted : s.halted = false)
    (hlegal : legalReport { kind := kind, opcode := op, pc := pc0 } s.pc) : (fatal kind op pc0 s).Inv := by
  refine ⟨hmem, hlatch, rfl, fun _ => hhalted, fun r hr => ?_⟩
  obtain rfl := Option.some.inj hr
  exact hlegal

theorem illegalOp_byte_mem (op : IllegalOp) : op.byte ∈ illegalBytes := by
  cases op <;> decide

/-- The end of a step that ran an instruction leaves a step boundary: STOP and the illegal opcodes make a legal report
and end there, and every other form leaves the core running for the interrupt phase. -/
theorem endStep_execForm_inv (form : Form) (hform : ∀ sub, form ≠ .prefixCb sub) {s : State} (hmem : s.memWf = true)
    (hlatch : s.imeScheduled = false) (hstopped : s.stopped = false) (hhalted : s.halted = false)
    (hfault : s.fault = none) : (endStep (execForm form s)).Inv := by
  have hpc : s.pc = s.pc - 1 + 1 := (BitVec.sub_add_cancel _ _).symm
  by_cases hstop : form = .stop
  · subst hstop
    exact fatal_inv hmem hlatch hhalted ⟨hpc, .inl ⟨rfl, rfl⟩⟩
  by_cases hillegal : ∃ op, form = .illegal op
  · obtain ⟨op, rfl⟩ := hillegal
    exact fatal_inv hmem hlatch hhalted ⟨hpc, .inr ⟨rfl, illegalOp_byte_mem op⟩⟩
  · obtain ⟨stoppedKept, faultKept⟩ :=
      (execForm_controlKept form hform s).run hstop (fun op h => hillegal ⟨op, h⟩)
    rw [endStep, stoppedKept, hstopped]
    exact interruptPhase_inv (execForm_memWf form hform hmem) (stoppedKept.trans hstopped) (faultKept.trans hfault)

end Sys2Proof.Machine

open Sys2Proof Sys2Proof.Machine

/-- Settles O60, along the three ways a step goes. -/
theorem stepKeepsInvariant : Obligations.StepKeepsInvariant := by
  intro s t hinv hstep
  have ⟨hmem, hlatch, hreport, _, _⟩ := hinv
  have running (hs : s.stopped = false) : s.fault = none := by simpa [hs] using hreport
  obtain ⟨-, h⟩ | ⟨hs, -, h⟩ | ⟨⟨hs, hh⟩, i, -, h⟩ := step_cases s
  · cases h.symm.trans hstep
    exact hinv
  · cases h.symm.trans hstep
    exact interruptPhase_inv (by simpa using hmem) (by simpa using hs) (by simpa using running hs)
  · cases h.symm.trans hstep
    exact endStep_execForm_inv (opOf i) (opOf_ne_prefixCb i) (by simpa using hmem) (by simpa using hlatch)
      (by simpa using hs) (by simpa using hh) (by simpa using running hs)
end

section
/-! The memory map of R61 read backwards, and what each address of it reads and stores (R62 to R69). -/

namespace Sys2Proof.Machine

/-! ## Which addresses resolve to a region -/

theorem regionOf_backing_iff {a : Word} {k : Nat} : regionOf a = .backing k ↔
    (a.toNat < 0x8000 ∨ 0xA000 ≤ a.toNat ∧ a.toNat < 0xC000) ∧ k = a.toNat := by
  unfold regionOf
  simp only
  split_ifs <;> simp only [Region.backing.injEq, false_iff] <;> omega

theorem regionOf_filler_iff {a : Word} : regionOf a = .filler ↔
    0x8000 ≤ a.toNat ∧ a.toNat < 0xA000 ∨ 0xFE00 ≤ a.toNat ∧ a.toNat < 0xFF00 := by
  unfold regionOf
  simp only
  split_ifs <;> simp only [false_iff, true_iff] <;> omega

/-- Working RAM has two names (R65): its own range and the echo. -/
theorem regionOf_wram_iff {a : Word} {k : Nat} : regionOf a = .wram k ↔
    (0xC000 ≤ a.toNat ∧ a.toNat < 0xE000) ∧ k = a.toNat - 0xC000 ∨
      (0xE000 ≤ a.toNat ∧ a.toNat < 0xFE00) ∧ k = a.toNat - 0xE000 := by
  unfold regionOf
  simp only
  split_ifs <;> simp only [Region.wram.injEq, false_iff] <;> omega

theorem regionOf_io_iff {a : Word} {r : IoReg} : regionOf a = .io r ↔
    (0xFF00 ≤ a.toNat ∧ a.toNat < 0xFF80) ∧ ioRegAt a.toNat = r := by
  unfold regionOf
  simp only
  split_ifs <;> simp only [Region.io.injEq, false_iff, iff_and_self] <;> omega

theorem regionOf_hram_iff {a : Word} {k : Nat} : regionOf a = .hram k ↔
    (0xFF80 ≤ a.toNat ∧ a.toNat < 0xFFFF) ∧ k = a.toNat - 0xFF80 := by
  unfold regionOf
  simp only
  split_ifs <;> simp only [Region.hram.injEq, false_iff] <;> omega

theorem regionOf_ie_iff {a : Word} : regionOf a = .ie ↔ a.toNat = 0xFFFF := by
  have := a.isLt
  unfold regionOf
  simp only
  split_ifs <;> simp only [false_iff, true_iff] <;> omega

/-- An address of the window that is none of the seven registers is unimplemented (R67). -/
theorem ioRegAt_unimplemented {a : Word}
    (h : a ∉ ([0xFF01, 0xFF02, 0xFF04, 0xFF05, 0xFF06, 0xFF07, 0xFF0F] : List Word)) :
    ioRegAt a.toNat = .unimplemented := by
  simp only [List.mem_cons, List.not_mem_nil, or_false, not_or, BitVec.toNat_eq] at h
  unfold ioRegAt
  split <;> simp_all

/-! ## What a region reads and stores -/

section
variable {a : Word} {k : Nat} {r : IoReg}

theorem bus_backing (h : regionOf a = .backing k) (v : Byte) (s : State) :
    busRead a s = Memory.read s.backing k ∧ busWrite a v s = s.withBacking (Memory.write s.backing k v) := by
  simp only [busRead, busWrite, h, and_self]
theorem bus_filler (h : regionOf a = .filler) (v : Byte) (s : State) :
    busRead a s = Config.fillerByte ∧ busWrite a v s = s := by
  simp only [busRead, busWrite, h, and_self]
theorem bus_wram (h : regionOf a = .wram k) (v : Byte) (s : State) :
    busRead a s = Memory.read s.wram k ∧ busWrite a v s = s.withWram (Memory.write s.wram k v) := by
  simp only [busRead, busWrite, h, and_self]
theorem bus_io (h : regionOf a = .io r) (v : Byte) (s : State) :
    busRead a s = ioRead r s ∧ busWrite a v s = ioWrite r v s := by
  simp only [busRead, busWrite, h, and_self]
theorem bus_hram (h : regionOf a = .hram k) (v : Byte) (s : State) :
    busRead a s = Memory.read s.hram k ∧ busWrite a v s = s.withHram (Memory.write s.hram k v) := by
  simp only [busRead, busWrite, h, and_self]
theorem bus_ie (h : regionOf a = .ie) (v : Byte) (s : State) :
    busRead a s = s.ie ∧ busWrite a v s = s.withIe v := by
  simp only [busRead, busWrite, h, and_self]

end

/-- A DIV write clears the divider, and counts TIMA where the selected bit was set in an enabled timer (R318). -/
theorem writeDiv_eq (s : State) : writeDiv s =
    if s.timer.tac.getLsbD 2 = true ∧ s.timer.div.getLsbD (selectedBit s.timer.tac) = true
      then timaIncrement (s.withTimer { s.timer with div := 0 })
      else s.withTimer { s.timer with div := 0 } := by
  simp [writeDiv, moveDiv, timerEnabled]

end Sys2Proof.Machine

open Sys2Proof Sys2Proof.Machine

/-- Settles O48: each range of the map resolves to its region. -/
theorem memoryMapRule : Obligations.MemoryMapRule := by
  intro addr v s
  exact ⟨fun h => bus_backing (regionOf_backing_iff.mpr ⟨h, rfl⟩) v s,
    fun h => bus_filler (regionOf_filler_iff.mpr h) v s,
    fun h => bus_wram (regionOf_wram_iff.mpr (.inl ⟨h, rfl⟩)) v s,
    fun h => bus_wram (regionOf_wram_iff.mpr (.inr ⟨h, rfl⟩)) v s,
    fun h => bus_hram (regionOf_hram_iff.mpr ⟨h, rfl⟩) v s,
    fun h => bus_ie (regionOf_ie_iff.mpr h) v s⟩

/-- Settles O49: the seven register addresses by computation, every other address of the window as unimplemented. -/
theorem ioWindowRule : Obligations.IoWindowRule := by
  intro addr v s
  exact ⟨⟨rfl, rfl⟩, ⟨rfl, rfl⟩, ⟨rfl, writeDiv_eq s⟩, ⟨rfl, rfl⟩, ⟨rfl, rfl⟩, ⟨rfl, rfl⟩, ⟨rfl, rfl⟩,
    fun hlo hhi hnone => bus_io (regionOf_io_iff.mpr ⟨⟨hlo, hhi⟩, ioRegAt_unimplemented hnone⟩) v s⟩

/-- Settles O50: an access is a tick and then the bus. -/
theorem accessPrimitives : Obligations.AccessPrimitives :=
  fun _ _ _ s => ⟨rfl, rfl, rfl, rfl, rfl, rfl, fetchByte_eq s⟩
end

section
/-! Storage (R78): its addresses, which of them echo each other (R65), and the stack kept in it (R73). -/

namespace Sys2Proof.Machine

/-! ## Storage and its places -/

theorem isStorage_iff_range {b : Word} : isStorage b = true ↔
    b.toNat < 0x8000 ∨ 0xA000 ≤ b.toNat ∧ b.toNat < 0xFE00 ∨ 0xFF80 ≤ b.toNat ∧ b.toNat < 0xFFFF := by
  simp only [isStorage_iff, regionOf_backing_iff, regionOf_wram_iff, regionOf_hram_iff, exists_or, exists_and_left,
    exists_eq, and_true]
  omega

/-- A storage address shares its place with itself and, in working RAM, with its echo 0x2000 away (R65). -/
theorem samePlace_iff {a b : Word} (hb : isStorage b = true) : samePlace b a ↔
    b = a ∨ (0xC000 ≤ a.toNat ∧ a.toNat < 0xDE00 ∧ b = a + 0x2000) ∨
      (0xE000 ≤ a.toNat ∧ a.toNat < 0xFE00 ∧ b = a - 0x2000) := by
  obtain ⟨k, hk⟩ | ⟨k, hk⟩ | ⟨k, hk⟩ := isStorage_iff.mp hb <;> rw [samePlace, hk, eq_comm]
  · rw [regionOf_backing_iff] at hk ⊢
    bv_omega
  · rw [regionOf_wram_iff] at hk ⊢
    bv_omega
  · rw [regionOf_hram_iff] at hk ⊢
    bv_omega

/-- A read and the storage check see only the place. -/
theorem busRead_of_samePlace {a b : Word} (h : samePlace b a) (s : State) : busRead b s = busRead a s := by
  unfold busRead
  rw [show regionOf b = regionOf a from h]
theorem isStorage_of_samePlace {a b : Word} (h : samePlace b a) (hb : isStorage b = true) : isStorage a = true := by
  unfold isStorage at hb ⊢
  rwa [show regionOf b = regionOf a from h] at hb

/-- Neighbouring addresses are different places: an echo is 0x2000 away. -/
theorem not_samePlace_pred {b : Word} (hb : isStorage b = true) : ¬ samePlace b (b - 1) := by
  rw [samePlace_iff hb]
  bv_omega

/-! ## A pop after a push -/

section
variable {s : State} (hw : s.memWf = true)
include hw

theorem busRead_afterPush_low (hlo : isStorage (s.sp - 2) = true) (v : Word) :
    busRead (s.sp - 2) (afterPush v s) = loByte v := by
  rw [afterPush, busRead_withSp]
  exact busRead_busWrite_same (by simpa using busWrite_memWf (by simpa using hw)) hlo

theorem busRead_afterPush_high (hhi : isStorage (s.sp - 1) = true) (v : Word) :
    busRead (s.sp - 1) (afterPush v s) = hiByte v := by
  have apart : ¬ samePlace (s.sp - 1) (s.sp - 2) := by
    have h := not_samePlace_pred hhi
    rwa [show s.sp - 1 - 1 = s.sp - 2 by bv_omega] at h
  rw [afterPush, busRead_withSp, busRead_busWrite_ne hhi apart, busRead_advance_storage hhi]
  exact busRead_busWrite_same (by simpa using hw) hhi

end

@[simp] theorem afterFetch_sp (n : Nat) (s : State) : (afterFetch n s).sp = s.sp := by simp [afterFetch]

theorem busRead_afterFetch_storage {a : Word} (h : isStorage a = true) (n : Nat) (s : State) :
    busRead a (afterFetch n s) = busRead a s := by
  rw [afterFetch, busRead_withPc, busRead_advance_storage h]

/-- In storage, the ticks of a pop's two reads do not matter. -/
theorem poppedWord_storage {s : State} (hlo : isStorage s.sp = true) (hhi : isStorage (s.sp + 1) = true) :
    poppedWord s = ofHiLo (busRead (s.sp + 1) s) (busRead s.sp s) := by
  rw [poppedWord, busRead_advance_storage hlo, busRead_advance_storage hhi]

/-- A pop gives back what was pushed, whatever number of bytes is fetched in between. -/
theorem pop16_afterFetch_afterPush {s : State} (hw : s.memWf = true) (hhi : isStorage (s.sp - 1) = true)
    (hlo : isStorage (s.sp - 2) = true) (v : Word) (n : Nat) :
    (pop16 (afterFetch n (afterPush v s))).1 = v ∧ (pop16 (afterFetch n (afterPush v s))).2.sp = s.sp := by
  have hsp : s.sp - 2 + 1 = s.sp - 1 := by bv_omega
  constructor
  · rw [pop16_eq, poppedWord_storage (by simpa using hlo) (by rwa [afterFetch_sp, afterPush_sp, hsp])]
    simp only [afterFetch_sp, afterPush_sp, hsp, busRead_afterFetch_storage hlo, busRead_afterFetch_storage hhi,
      busRead_afterPush_low hw hlo, busRead_afterPush_high hw hhi, ofHiLo_hiByte_loByte]
  · simp

/-- A pair reads back what was written to it, AF with the low nibble of F masked away (R21, R22). -/
theorem stackPair_setStackPair (s : State) (rr : StackPair) (v : Word) :
    (s.setStackPair rr v).stackPair rr = if rr = .af then v &&& 0xFFF0 else v := by
  cases rr with
  | bc => exact bc_setBc s v
  | de => exact de_setDe s v
  | hl => exact hl_setHl s v
  | af => exact af_setAf s v

/-- What a row executes as. -/
theorem exec_instr (form : Form) (s : State) : exec form.instr s = .next (execForm form s) := by
  rw [exec_eq, Form.instr_form]

end Sys2Proof.Machine

open Sys2Proof Sys2Proof.Machine

/-- Settles O52: a write cycle ends with the bus write, which only its own place sees. -/
theorem readReturnsLastWrite : Obligations.ReadReturnsLastWrite := by
  intro a b v s hw
  have cycle : (memRead b (memWrite a v s)).1 = busRead b (advance 1 (busWrite a v (advance 1 s))) := rfl
  refine ⟨isStorage_iff_range, samePlace_iff, fun hb hsame => ?_, fun hb hother => ?_⟩
  · rw [cycle, busRead_advance_storage hb, busRead_of_samePlace hsame]
    exact busRead_busWrite_same (by simpa using hw) (isStorage_of_samePlace hsame hb)
  · rw [cycle, busRead_advance_storage hb, busRead_busWrite_ne hb hother]
    rfl

/-- Settles O51: both operations in one expression each, and no fetch in between. -/
theorem stackProtocol : Obligations.StackProtocol := by
  intro v s
  refine ⟨push16_eq v s, pop16_eq s, fun hw hhi hlo => ?_⟩
  have back := pop16_afterFetch_afterPush hw hhi hlo v 0
  rwa [afterFetch_zero, ← push16_eq] at back

/-- Settles O16: the POP's opcode fetch is the one byte in between. -/
theorem popAfterPushRestores : Obligations.PopAfterPushRestores := by
  intro pushed popped s hw hhi hlo
  have back := pop16_afterFetch_afterPush (s := advance 1 s) (by simpa using hw) (by simpa using hhi)
    (by simpa using hlo) (s.stackPair pushed) 1
  rw [← push16_eq, advance_sp] at back
  obtain ⟨word, sp⟩ := back
  refine ⟨_, _, exec_instr _ s, exec_instr _ _, ?_⟩
  simp only [execForm, pushOp, popOp, internal_eq, setStackPair_sp, stackPair_setStackPair, word, sp, and_self]
end

section
/-! The memory frame: a machine cycle changes what the bus reads only at the place it stores to, apart from DIV, TIMA
and IF, which the ticks move. -/

namespace Sys2Proof.Machine

/-! ## The addresses that ticks leave alone -/

/-- The registers that a tick moves (R315, R316). -/
def IoReg.ticks : IoReg → Bool
  | .div | .tima | .intFlags => true
  | .sb | .sc | .tma | .tac | .unimplemented => false

/-- An address whose byte no tick moves. -/
def Untimed (b : Word) : Prop := ∀ r, regionOf b = .io r → r.ticks = false

/-- Every address but DIV's, TIMA's and IF's is untimed. -/
theorem untimed_of_ne {b : Word} (hdiv : b ≠ 0xFF04) (htima : b ≠ 0xFF05) (hif : b ≠ 0xFF0F) : Untimed b := by
  rw [ne_eq, BitVec.toNat_eq] at hdiv htima hif
  intro r hr
  obtain ⟨-, rfl⟩ := regionOf_io_iff.mp hr
  unfold ioRegAt
  split <;> simp_all [IoReg.ticks]

theorem ioRead_moveDiv {r : IoReg} (hr : r.ticks = false) (d : BitVec 16) (s : State) :
    ioRead r (moveDiv d s) = ioRead r s := by
  cases r with
  | div | tima | intFlags => contradiction
  | sb | sc | tma | tac | unimplemented => simp [ioRead]

/-- A write to another register, the DIV write's edge check included, leaves an untimed register alone. -/
theorem ioRead_ioWrite_ne {r q : IoReg} (hr : r.ticks = false) (hne : r ≠ q) (v : Byte) (s : State) :
    ioRead r (ioWrite q v s) = ioRead r s := by
  cases q with
  | div => exact ioRead_moveDiv hr 0 s
  | _ => cases r <;> simp_all [ioRead, ioWrite, IoReg.ticks]

theorem busRead_timerTick {b : Word} (hb : Untimed b) (s : State) : busRead b (timerTick s) = busRead b s := by
  unfold busRead
  split
  case h_4 r hr => exact ioRead_moveDiv (hb r hr) _ s
  all_goals simp

theorem busRead_advance {b : Word} (hb : Untimed b) (n : Nat) (s : State) : busRead b (advance n s) = busRead b s := by
  induction n generalizing s with
  | zero => rfl
  | succ n ih => rw [advance_succ, ih, busRead_timerTick hb]

theorem ioRead_busWrite_ne {a : Word} {r : IoReg} (hr : r.ticks = false) (h : regionOf a ≠ .io r) (v : Byte)
    (s : State) : ioRead r (busWrite a v s) = ioRead r s := by
  unfold busWrite
  split
  case h_4 q hq => exact ioRead_ioWrite_ne hr (fun e => h (by rw [e, hq])) v s
  all_goals cases r <;> rfl

theorem busWrite_ie_ne {a : Word} (h : regionOf a ≠ .ie) (v : Byte) (s : State) : (busWrite a v s).ie = s.ie := by
  unfold busWrite
  split <;> simp_all

/-- Filler and unimplemented addresses read alike in every state (R63, R67). -/
theorem busRead_const {b : Word} (h : regionOf b = .filler ∨ regionOf b = .io .unimplemented) (s t : State) :
    busRead b t = busRead b s := by
  obtain h | h := h <;> simp only [busRead, h, ioRead]

/-- A write leaves every other untimed place alone. -/
theorem busRead_busWrite_other {a b : Word} (hb : Untimed b) (h : ¬ samePlace b a) (v : Byte) (s : State) :
    busRead b (busWrite a v s) = busRead b s := by
  cases hr : regionOf b with
  | backing k => exact busRead_busWrite_ne (isStorage_iff.mpr (.inl ⟨k, hr⟩)) h
  | wram k => exact busRead_busWrite_ne (isStorage_iff.mpr (.inr (.inl ⟨k, hr⟩))) h
  | hram k => exact busRead_busWrite_ne (isStorage_iff.mpr (.inr (.inr ⟨k, hr⟩))) h
  | filler => exact busRead_const (.inl hr) s _
  | ie =>
    rw [(bus_ie hr v _).1, (bus_ie hr v _).1]
    exact busWrite_ie_ne (fun ha => h (hr.trans ha.symm)) v s
  | io r =>
    rw [(bus_io hr v _).1, (bus_io hr v _).1]
    exact ioRead_busWrite_ne (hb r hr) (fun ha => h (hr.trans ha.symm)) v s

/-! ## Machine cycles -/

theorem accessAddrs_some (a : Word) (v : Byte) (l : List Access) :
    accessAddrs (some (a, v) :: l) = a :: accessAddrs l := rfl

/-- Machine cycles leave every untimed place alone that none of them stores to. -/
theorem busRead_runAccesses {b : Word} (hb : Untimed b) {l : List Access}
    (h : ∀ a, a ∈ accessAddrs l → ¬ samePlace b a) (s : State) : busRead b (runAccesses l s) = busRead b s := by
  induction l generalizing s with
  | nil => rfl
  | cons x rest ih =>
    cases x with
    | none => rw [runAccesses, ih h, runAccess, busRead_advance hb]
    | some store =>
      obtain ⟨a, v⟩ := store
      rw [accessAddrs_some, List.forall_mem_cons] at h
      rw [runAccesses, ih h.2, runAccess, busRead_busWrite_other hb h.1, busRead_advance hb]

end Sys2Proof.Machine

open Sys2Proof Sys2Proof.Machine

/-- Settles O56: an instruction is machine cycles that store where its rule says. -/
theorem memoryFrame : Obligations.MemoryFrame := by
  intro i s t b hexec hdiv htima hif hplace
  rw [exec_op] at hexec
  cases hexec
  obtain hother | hconst := hplace
  · rw [(execForm_bus (opOf i) (opOf_ne_prefixCb i) s).busRead]
    rw [← accessesOf_addrs] at hother
    exact busRead_runAccesses (untimed_of_ne hdiv htima hif) hother s
  · exact busRead_const hconst s _
end

section
/-! The encoding: the words of what the primary table answers are the opcode and its operand bytes, so an instruction has
the bytes it was decoded from for its words (R91 to R107). -/

namespace Sys2Proof.Machine

/-! ## The words of the primary table -/

/-- A byte is put together from its fields x, y and z (R91). -/
theorem byteOf_fields (op : Byte) : byteOf ((op.extractLsb' 6 2).toNat * 64 + (op.extractLsb' 3 3).toNat * 8 +
    (op.extractLsb' 0 3).toNat) = op := by
  revert op; decide

/-- The words of `form` are `op` and as many of `operands` as R107 gives it. -/
def HasWords (form : Form) (op : Byte) (operands : List Byte) : Prop :=
  form.bytes = op :: operands.take (operandCount op)

section
variable {y z : Nat} (hy : y < 8) (hz : z < 8)
include hy hz

/-! Each cell of the opcode map (R100), a word operand given low byte first. -/

theorem decodeRows0_words (n16 : Word) :
    HasWords (decodeRows0 y z (loByte n16) n16) (byteOf (0 * 64 + y * 8 + z)) [loByte n16, hiByte n16] := by
  interval_cases y <;> interval_cases z <;> rfl

theorem decodeRows1_words (operands : List Byte) :
    HasWords (decodeRows1 y z) (byteOf (1 * 64 + y * 8 + z)) operands := by
  interval_cases y <;> interval_cases z <;> rfl

theorem decodeRows2_words (operands : List Byte) :
    HasWords (.alu (aluOpOfCode y) (aluSrcOfLoc (loc8OfCode z))) (byteOf (2 * 64 + y * 8 + z)) operands := by
  interval_cases y <;> interval_cases z <;> rfl

theorem decodeRows3_words (n16 : Word) :
    HasWords (decodeRows3 y z (loByte n16) n16) (byteOf (3 * 64 + y * 8 + z)) [loByte n16, hiByte n16] := by
  interval_cases y <;> interval_cases z <;> rfl

end

/-- The words of what the primary table answers: the opcode and its operand bytes. -/
theorem decodePrimary_words (op b1 b2 : Byte) : HasWords (decodePrimary op b1 b2) op [b1, b2] := by
  have hx := (op.extractLsb' 6 2).isLt
  have hy := (op.extractLsb' 3 3).isLt
  have hz := (op.extractLsb' 0 3).isLt
  have rows0 := decodeRows0_words hy hz (ofHiLo b2 b1)
  have rows3 := decodeRows3_words hy hz (ofHiLo b2 b1)
  rw [loByte_ofHiLo, hiByte_ofHiLo] at rows0 rows3
  conv => arg 2; rw [← byteOf_fields op]
  unfold decodePrimary
  generalize (op.extractLsb' 6 2).toNat = x at hx
  match x, hx with
  | 0, _ => exact rows0
  | 1, _ => exact decodeRows1_words hy hz _
  | 2, _ => exact decodeRows2_words hy hz _
  | 3, _ => exact rows3

/-! ## What `decode` answers -/

/-- Resolving PREFIX CB changes no words (R285). -/
theorem resolvePrefix_bytes (form : Form) : (resolvePrefix form).bytes = form.bytes := by
  cases form with
  | prefixCb sub => exact decodeCb_bytes sub
  | _ => rfl

/-- The primary table answers PREFIX CB for the opcode CB alone, the first of its words. -/
theorem resolvePrefix_decodePrimary {op : Byte} (hop : op ≠ 0xCB) (b1 b2 : Byte) :
    resolvePrefix (decodePrimary op b1 b2) = decodePrimary op b1 b2 := by
  have words := decodePrimary_words op b1 b2
  cases hform : decodePrimary op b1 b2 with
  | prefixCb sub =>
    rw [hform] at words
    exact absurd (List.cons.inj words).1.symm hop
  | _ => rfl

/-- What `decode` answers is what the primary table answers for the opcode and the bytes taken, PREFIX CB resolved. -/
theorem decode_inv {op : Byte} {rest tail : List Byte} {i : Instr} (h : decode (op :: rest) = .ok (i, tail)) :
    ∃ b1 b2, i = (resolvePrefix (decodePrimary op b1 b2)).instr ∧ rest = [b1, b2].take (operandCount op) ++ tail := by
  simp only [decode] at h
  split at h
  case h_1 hcount =>
    cases h
    rw [hcount]
    refine ⟨0, 0, ?_, rfl⟩
    rw [resolvePrefix_decodePrimary (by rintro rfl; contradiction)]
  case h_2 b1 _ hcount =>
    cases h
    rw [hcount]
    exact ⟨b1, 0, rfl, rfl⟩
  case h_3 b1 b2 _ hcount =>
    cases h
    rw [hcount]
    refine ⟨b1, b2, ?_, rfl⟩
    rw [resolvePrefix_decodePrimary (by rintro rfl; contradiction)]
  case h_4 => cases h

/-- The words of what `decode` answers are the bytes it took: the opcode and its operand bytes. -/
theorem encode_of_decode {op : Byte} {rest tail : List Byte} {i : Instr} (h : decode (op :: rest) = .ok (i, tail)) :
    ∃ operands, operands.length = operandCount op ∧ rest = operands ++ tail ∧ encode i = op :: operands := by
  obtain ⟨b1, b2, rfl, hrest⟩ := decode_inv h
  refine ⟨[b1, b2].take (operandCount op), List.length_take_of_le (operandCount_le op), hrest, ?_⟩
  rw [encode, Form.instr_form, resolvePrefix_bytes, decodePrimary_words]

/-! ## The unmapped opcodes and the CB space -/

/-- The primary table answers an illegal form for exactly the eleven unmapped opcodes (R103). -/
theorem decodePrimary_illegal_iff {op b1 b2 : Byte} :
    (∃ x, decodePrimary op b1 b2 = .illegal x) ↔ op ∈ illegalBytes := by
  constructor
  · rintro ⟨x, hx⟩
    have words := decodePrimary_words op b1 b2
    rw [hx] at words
    rw [← (List.cons.inj words).1]
    exact illegalOp_byte_mem x
  · intro h
    simp only [illegalBytes, List.mem_cons, List.not_mem_nil, or_false] at h
    rcases h with rfl | rfl | rfl | rfl | rfl | rfl | rfl | rfl | rfl | rfl | rfl <;> exact ⟨_, rfl⟩

/-- Every CB sub-opcode is one of the four classes of R101. -/
theorem decodeCb_cases (sub : Byte) : (∃ op x, decodeCb sub = .rot op x) ∨ (∃ b x, decodeCb sub = .bit b x) ∨
    (∃ b x, decodeCb sub = .res b x) ∨ (∃ b x, decodeCb sub = .set b x) := by
  simp only [decodeCb]
  split
  · exact .inl ⟨_, _, rfl⟩
  · exact .inr (.inl ⟨_, _, rfl⟩)
  · exact .inr (.inr (.inl ⟨_, _, rfl⟩))
  · exact .inr (.inr (.inr ⟨_, _, rfl⟩))

/-- Resolving PREFIX CB makes no form illegal. -/
theorem resolvePrefix_illegal_iff {form : Form} {x : IllegalOp} :
    resolvePrefix form = .illegal x ↔ form = .illegal x := by
  cases form with
  | prefixCb sub =>
    obtain ⟨_, _, h⟩ | ⟨_, _, h⟩ | ⟨_, _, h⟩ | ⟨_, _, h⟩ := decodeCb_cases sub <;> simp [resolvePrefix, h]
  | _ => rfl

theorem instr_injective : Function.Injective Form.instr :=
  Function.LeftInverse.injective Form.instr_form

/-- After the byte CB, `decode` answers the row of the structural decode of the next byte (R285). -/
theorem decode_cb {sub : Byte} {form : Form} (h : decodeCb sub = form) (rest : List Byte) :
    decode (0xCB :: sub :: rest) = .ok (form.instr, rest) := by
  rw [← h]
  rfl

/-- The structural CB decode, field by field, is the operation and the operand of the field codes (R101). -/
theorem decodeCb_fields (y z : Fin 8) :
    decodeCb (byteOf (0 * 64 + y.val * 8 + z.val)) = .rot (rotOpOfCode y) (loc8OfCode z) ∧
    decodeCb (byteOf (1 * 64 + y.val * 8 + z.val)) = .bit y (loc8OfCode z) ∧
    decodeCb (byteOf (2 * 64 + y.val * 8 + z.val)) = .res y (loc8OfCode z) ∧
    decodeCb (byteOf (3 * 64 + y.val * 8 + z.val)) = .set y (loc8OfCode z) := by
  revert y z; decide

/-- The order of the operand codes (R93). -/
theorem loc8OfCode_eq_getD (z : Fin 8) :
    loc8OfCode z = [Loc8.reg .b, .reg .c, .reg .d, .reg .e, .reg .h, .reg .l, .atHl, .reg .a].getD z.val .atHl := by
  revert z; decide

/-- The order of the rotates and shifts (R102). -/
theorem rotOpOfCode_eq_getD (y : Fin 8) :
    rotOpOfCode y = [RotOp.rlc, .rrc, .rl, .rr, .sla, .sra, .swap, .srl].getD y.val .srl := by
  revert y; decide

end Sys2Proof.Machine

open Sys2Proof Sys2Proof.Machine

/-- Settles O4: R107's lists are the operand counts plus one. -/
theorem lengthFollowsFromFirstByte : Obligations.LengthFollowsFromFirstByte := by
  intro op rest tail i h
  obtain ⟨operands, hlength, -, hwords⟩ := encode_of_decode h
  rw [hwords, List.length_cons, hlength]
  clear h hwords hlength
  revert op; decide

/-- Settles O5: three bytes are enough for any opcode, and the words of an illegal form name its opcode. -/
theorem decoderIsTotal : Obligations.DecoderIsTotal := by
  refine ⟨fun op b1 b2 => ?_, fun sub => ⟨_, decode_cb rfl [], ?_⟩⟩
  · obtain ⟨i, hi⟩ := decode_ok (rest := [b1, b2]) (operandCount_le op)
    obtain ⟨c1, c2, rfl, -⟩ := decode_inv hi
    refine ⟨_, _, hi, ?_⟩
    simp only [instr_injective.eq_iff, resolvePrefix_illegal_iff]
    exact decodePrimary_illegal_iff
  · simp only [instr_injective.eq_iff]
    exact decodeCb_cases sub

/-- Settles O6: the fields by computation, and PREFIX CB as the form it resolves to. -/
theorem prefixRunsTheSlicedInstruction : Obligations.PrefixRunsTheSlicedInstruction := by
  refine ⟨fun y z rest => ?_, fun sub s => ⟨_, _, decode_cb rfl [], exec_instr _ s, exec_op (.prefixCb sub) s⟩⟩
  obtain ⟨hrot, hbit, hres, hset⟩ := decodeCb_fields y z
  rw [loc8OfCode_eq_getD] at hrot hbit hres hset
  rw [rotOpOfCode_eq_getD] at hrot
  exact ⟨decode_cb hrot rest, decode_cb hbit rest, decode_cb hres rest, decode_cb hset rest⟩
end

section
/-! The register frame: every update the shared operations are built from changes the registers it names, and no other. -/

namespace Sys2Proof.Machine

/-- From `s` to `t`, no 8-bit register besides F changed but those of `l`. -/
def RegsKeptBut (l : List Reg8) (s t : State) : Prop := ∀ r, r ∉ l → t.reg r = s.reg r

namespace RegsKeptBut
variable {l : List Reg8} {s t : State}

theorem refl (l : List Reg8) (s : State) : RegsKeptBut l s s := fun _ _ => rfl

/-- A state with the registers of `t` is kept as `t` is. -/
theorem congr {u : State} (h : RegsKeptBut l s t) (hregs : u.regs = t.regs) : RegsKeptBut l s u :=
  fun r hr => (reg_of_regs hregs r).trans (h r hr)

theorem withFlags (h : RegsKeptBut l s t) (v : Flags) : RegsKeptBut l s (t.withFlags v) := h.congr rfl
theorem advance (h : RegsKeptBut l s t) (n : Nat) : RegsKeptBut l s (advance n t) := h.congr (advance_regs n t)

/-! ## Updates of the registers in the list -/

theorem setReg (h : RegsKeptBut l s t) {x : Reg8} (hx : x ∈ l) (v : Byte) : RegsKeptBut l s (t.setReg x v) := by
  intro r hr
  have hne : r ≠ x := fun e => hr (e ▸ hx)
  rw [reg_setReg, if_neg hne]
  exact h r hr

/-- A pair's write is the writes of its two registers (R21). -/
theorem setPair (h : RegsKeptBut l s t) {p : Pair} (hp : pairRegs p ⊆ l) (v : Word) :
    RegsKeptBut l s (t.setPair p v) := by
  cases p with
  | sp => exact h.congr rfl
  | bc | de | hl =>
    obtain ⟨hhi, hlo⟩ := List.cons_subset.mp hp
    exact (h.setReg hhi (hiByte v)).setReg (hlo (List.mem_singleton_self _)) (loByte v)

theorem setStackPair (h : RegsKeptBut l s t) {p : StackPair} (hp : stackPairRegs p ⊆ l) (v : Word) :
    RegsKeptBut l s (t.setStackPair p v) := by
  cases p with
  | bc => exact h.setPair (p := .bc) hp v
  | de => exact h.setPair (p := .de) hp v
  | hl => exact h.setPair (p := .hl) hp v
  | af => exact (h.setReg (hp (List.mem_singleton_self _)) (hiByte v)).withFlags _

theorem writeLoc (h : RegsKeptBut l s t) {x : Loc8} (hx : locRegs x ⊆ l) (v : Byte) :
    RegsKeptBut l s (writeLoc x v t) := by
  cases x with
  | reg r => exact h.setReg (hx (List.mem_singleton_self _)) v
  | atHl => exact h.congr (memWrite_regs _ v t)

theorem loadByteOp (h : RegsKeptBut l s t) {dst : Reg8} (hdst : dst ∈ l) (a : Word) :
    RegsKeptBut l s (loadByteOp dst a t) := (h.advance 1).setReg hdst _

theorem readLoc (h : RegsKeptBut l s t) (x : Loc8) : RegsKeptBut l s (readLoc x t).2 := by
  cases x with
  | reg r => exact h
  | atHl => exact h.advance 1
theorem readSrc (h : RegsKeptBut l s t) (src : AluSrc) : RegsKeptBut l s (readSrc src t).2 := by
  cases src with
  | reg r | imm n8 => exact h
  | atHl => exact h.advance 1

end RegsKeptBut

/-! ## Transfers keep the registers -/

@[simp] theorem callTo_regs (target : Word) (s : State) : (callTo target s).regs = s.regs := by simp [callTo]
@[simp] theorem retOp_regs (s : State) : (retOp s).regs = s.regs := by simp [retOp]

/-- Every instruction changes no register but those its rule writes. -/
theorem execForm_regsKept (form : Form) (hform : ∀ sub, form ≠ .prefixCb sub) (s : State) :
    RegsKeptBut (writesRegs form) s (execForm form s) := by
  have same := RegsKeptBut.refl (writesRegs form) s
  have self (r : Reg8) : r ∈ [r] := List.mem_singleton_self r
  cases form with
  | prefixCb sub => exact absurd rfl (hform sub)
  | nop | halt | stop | di | ei | illegal _ | scf | ccf | jpHl => exact same.congr rfl
  | daa | cpl | rlca | rrca | rla | rra => exact (same.setReg (self .a) _).withFlags _
  | ldRegReg dst src | ldRegImm dst n8 => exact same.setReg (self dst) _
  | ldRegAtHl dst => exact same.loadByteOp (self dst) _
  | ldAAtPtr _ | ldAAtA16 _ | ldhAAtC | ldhAAtA8 _ => exact same.loadByteOp (self .a) _
  | ldAtHlReg _ | ldAtHlImm _ | ldAtPtrA _ | ldAtA16A _ | ldhAtCA | ldhAtA8A _ => exact same.congr (memWrite_regs ..)
  | ldAtA16Sp a16 => exact same.congr ((memWrite_regs ..).trans (memWrite_regs ..))
  | ldAAtHlInc | ldAAtHlDec =>
    exact (same.loadByteOp List.mem_cons_self _).setPair (p := .hl) (List.subset_cons_self ..) _
  | ldAtHlIncA | ldAtHlDecA => exact (same.congr (memWrite_regs ..)).setPair (p := .hl) (List.Subset.refl _) _
  | ldPairImm rr n16 => exact same.setPair (List.Subset.refl _) _
  | incPair rr | decPair rr => exact (same.advance 1).setPair (List.Subset.refl _) _
  | ldHlSpE8 _ | addHl _ => exact ((same.advance 1).setPair (p := .hl) (List.Subset.refl _) _).withFlags _
  | ldSpHl | jp _ | jr _ => exact same.advance 1
  | addSpE8 e8 => exact ((same.advance 1).advance 1).congr rfl
  | push rr => exact same.congr (by simp [execForm, pushOp])
  | pop rr => exact (same.congr (pop16_snd_regs s)).setStackPair (List.Subset.refl _) _
  | alu op src =>
    have read := same.readSrc src
    cases op with
    | cp => exact read.withFlags _
    | _ => exact (read.setReg (self .a) _).withFlags _
  | inc x | dec x | rot _ x => exact ((same.readLoc x).writeLoc (List.Subset.refl _) _).withFlags _
  | bit b x => exact (same.readLoc x).withFlags _
  | res b x | set b x => exact (same.readLoc x).writeLoc (List.Subset.refl _) _
  | call _ | rst _ => exact same.congr (callTo_regs ..)
  | ret | reti => exact same.congr (retOp_regs s)
  | jpCc cc _ | jrCc cc _ =>
    simp only [execForm, jpCcOp, jrCcOp]
    split
    · exact same.advance 1
    · exact same
  | callCc cc a16 =>
    simp only [execForm, callCcOp]
    split
    · exact same.congr (callTo_regs a16 s)
    · exact same
  | retCc cc =>
    simp only [execForm, retCcOp]
    split
    · exact (same.advance 1).congr (retOp_regs _)
    · exact same.advance 1

end Sys2Proof.Machine

open Sys2Proof Sys2Proof.Machine

/-- Settles O53: the frame of the instruction's form, PREFIX CB resolved. -/
theorem registerFrame : Obligations.RegisterFrame := by
  intro i s t r hexec hr
  rw [exec_op] at hexec
  cases hexec
  exact execForm_regsKept (opOf i) (opOf_ne_prefixCb i) s r hr
end

section
/-! The loads, the stores and the stack instructions (40_load.md): an instruction runs as its form does, and each form's
words stand in its encoding line, so what a rule asks is the effect of one access. -/

namespace Sys2Proof.Machine

/-- An instruction of a form has the form's words and effect. -/
theorem runs_of_form {i : Instr} {form : Form} {words : List Byte} {s t : State} (h : opOf i = form)
    (hwords : form.bytes = words) (heffect : execForm form s = t) : Runs i words s t := by
  rw [runs_iff, h]
  exact ⟨hwords, heffect⟩

/-! ## Accesses -/

/-- The read cycle ticks, then reads (R70). -/
theorem loadByteOp_eq (dst : Reg8) (a : Word) (s : State) :
    loadByteOp dst a s = (advance 1 s).setReg dst (busRead a (advance 1 s)) := rfl

/-- Two write cycles, the low byte first (R72). -/
theorem memWrite16_eq (a v : Word) (s : State) :
    memWrite16 a v s = busWrite (a + 1) (hiByte v) (advance 1 (busWrite a (loByte v) (advance 1 s))) := rfl

/-- PUSH is an internal cycle and a push (R142). -/
theorem pushOp_eq (rr : StackPair) (s : State) : pushOp rr s =
    (busWrite (s.sp - 2) (loByte (s.stackPair rr))
      (advance 1 (busWrite (s.sp - 1) (hiByte (s.stackPair rr)) (advance 2 s)))).withSp (s.sp - 2) := by
  rw [pushOp, internal_eq, push16_eq, afterPush, advance_sp, advance_advance]

/-- POP writes the pair after both reads and the move of SP (R143). -/
theorem popOp_eq (rr : StackPair) (s : State) : popOp rr s =
    ((advance 2 s).withSp (s.sp + 2)).setStackPair rr
      (ofHiLo (busRead (s.sp + 1) (advance 2 s)) (busRead s.sp (advance 1 s))) := by
  rw [popOp, pop16_eq, poppedWord]

/-! ## A pair written from its two bytes (R21, R22) -/

section
variable (s : State) (hi lo : Byte)

theorem setStackPair_bc_ofHiLo : s.setStackPair .bc (ofHiLo hi lo) = (s.setReg .b hi).setReg .c lo := by
  rw [State.setStackPair, State.setBc, hiByte_ofHiLo, loByte_ofHiLo]
  rfl
theorem setStackPair_de_ofHiLo : s.setStackPair .de (ofHiLo hi lo) = (s.setReg .d hi).setReg .e lo := by
  rw [State.setStackPair, State.setDe, hiByte_ofHiLo, loByte_ofHiLo]
  rfl
theorem setStackPair_hl_ofHiLo : s.setStackPair .hl (ofHiLo hi lo) = (s.setReg .h hi).setReg .l lo := by
  rw [State.setStackPair, State.setHl, hiByte_ofHiLo, loByte_ofHiLo]
  rfl
theorem setStackPair_af_ofHiLo :
    s.setStackPair .af (ofHiLo hi lo) = (s.setReg .a hi).withFlags (flagsOfByte lo) := by
  rw [State.setStackPair, State.setAf, hiByte_ofHiLo, loByte_ofHiLo]
  rfl

end

end Sys2Proof.Machine

open Sys2Proof Sys2Proof.Machine

/-- Settles O9: the words and the effect are the form's own. -/
theorem registerLoads : Obligations.RegisterLoads :=
  fun _ _ _ _ _ => ⟨fun h => runs_of_form h rfl rfl, fun h => runs_of_form h rfl rfl⟩

/-- Settles O10: each form is a byte load at the address of its rule. -/
theorem memoryLoads : Obligations.MemoryLoads := by
  intro i dst a16 a8 s
  exact ⟨fun h => runs_of_form h rfl (loadByteOp_eq dst s.hl s),
    fun h => runs_of_form h rfl (loadByteOp_eq .a s.bc s),
    fun h => runs_of_form h rfl (loadByteOp_eq .a s.de s),
    fun h => runs_of_form h rfl (loadByteOp_eq .a a16 s),
    fun h => runs_of_form h rfl (loadByteOp_eq .a (highPage s.regs.c) s),
    fun h => runs_of_form h rfl (loadByteOp_eq .a (highPage a8) s)⟩

/-- Settles O11: each form is a write cycle at the address of its rule. -/
theorem byteStores : Obligations.ByteStores := by
  intro i src n8 a8 a16 s
  exact ⟨fun h => runs_of_form h rfl (memWrite_eq s.hl (s.reg src) s),
    fun h => runs_of_form h rfl (memWrite_eq s.hl n8 s),
    fun h => runs_of_form h rfl (memWrite_eq s.bc s.regs.a s),
    fun h => runs_of_form h rfl (memWrite_eq s.de s.regs.a s),
    fun h => runs_of_form h rfl (memWrite_eq a16 s.regs.a s),
    fun h => runs_of_form h rfl (memWrite_eq (highPage s.regs.c) s.regs.a s),
    fun h => runs_of_form h rfl (memWrite_eq (highPage a8) s.regs.a s)⟩

/-- Settles O12: HL is stepped from its value before the access. -/
theorem steppedHlLoadsAndStores : Obligations.SteppedHlLoadsAndStores := by
  intro i s
  have load := loadByteOp_eq .a s.hl s
  have store := memWrite_eq s.hl s.regs.a s
  exact ⟨fun h => runs_of_form h rfl (congrArg (State.setHl · (s.hl + 1)) load),
    fun h => runs_of_form h rfl (congrArg (State.setHl · (s.hl - 1)) load),
    fun h => runs_of_form h rfl (congrArg (State.setHl · (s.hl + 1)) store),
    fun h => runs_of_form h rfl (congrArg (State.setHl · (s.hl - 1)) store)⟩

/-- Settles O13: the pair loads by the form alone, the store of SP as two write cycles. -/
theorem pairLoadsAndSpStore : Obligations.PairLoadsAndSpStore :=
  fun _ _ v s => ⟨fun h => runs_of_form h rfl rfl,
    fun h => runs_of_form h rfl (congrArg (State.withSp · s.hl) (internal_eq s)),
    fun h => runs_of_form h rfl (memWrite16_eq v s.sp s)⟩

/-- Settles O14: the push starts one internal cycle later. -/
theorem pushStoresPair : Obligations.PushStoresPair :=
  fun _ rr s h => runs_of_form h rfl (pushOp_eq rr s)

/-- Settles O15: the popped word is written to the pair as the two bytes it was read as. -/
theorem popLoadsPair : Obligations.PopLoadsPair := by
  intro i s
  exact ⟨fun h => runs_of_form h rfl ((popOp_eq .bc s).trans (setStackPair_bc_ofHiLo ..)),
    fun h => runs_of_form h rfl ((popOp_eq .de s).trans (setStackPair_de_ofHiLo ..)),
    fun h => runs_of_form h rfl ((popOp_eq .hl s).trans (setStackPair_hl_ofHiLo ..)),
    fun h => runs_of_form h rfl ((popOp_eq .af s).trans (setStackPair_af_ofHiLo ..))⟩
end

section
/-! 8-bit arithmetic and logic (41_alu8.md): each computation in numbers, the ALU operations over the operand they read,
and DAA as one correction, which makes packed decimal of a binary sum or difference. -/

namespace Sys2Proof.Machine

/-! ## Results as numbers -/

/-- A byte is 0 when the number it is the low byte of is a multiple of 256. -/
theorem ofNat_byte_eq_zero_iff (n : Nat) : BitVec.ofNat 8 n = 0 ↔ n % 256 = 0 := by
  rw [← BitVec.toNat_inj, BitVec.toNat_ofNat]
  rfl

/-- A difference modulo 256, as a number that never goes below 0. -/
theorem ofInt_byte_sub (a b : Byte) {k : Nat} (hk : k ≤ 1) :
    BitVec.ofInt 8 ((a.toNat : Int) - b.toNat - k) = BitVec.ofNat 8 (a.toNat + 256 - b.toNat - k) := by
  have hb := b.isLt
  apply BitVec.eq_of_toNat_eq
  rw [BitVec.toNat_ofInt, BitVec.toNat_ofNat]
  omega

/-- `Add8` as R161 writes it. -/
theorem add8_eq {a b : Byte} {cin : Bool} {k : Nat} (hk : cin.toNat = k) : add8 a b cin =
    (BitVec.ofNat 8 (a.toNat + b.toNat + k),
      { z := decide ((a.toNat + b.toNat + k) % 256 = 0), n := false
        h := decide (a.toNat % 16 + b.toNat % 16 + k > 0x0F), c := decide (a.toNat + b.toNat + k > 0xFF) }) := by
  simp only [add8, hk, ofNat_byte_eq_zero_iff]

/-- `Sub8` as R162 writes it, the difference modulo 256 as a number. -/
theorem sub8_eq {a b : Byte} {cin : Bool} {k : Nat} (hk : cin.toNat = k) : sub8 a b cin =
    (BitVec.ofNat 8 (a.toNat + 256 - b.toNat - k),
      { z := decide ((a.toNat + 256 - b.toNat - k) % 256 = 0), n := true
        h := decide (a.toNat % 16 < b.toNat % 16 + k), c := decide (a.toNat < b.toNat + k) }) := by
  simp only [sub8, hk, ofInt_byte_sub a b (hk ▸ Bool.toNat_le cin), ofNat_byte_eq_zero_iff]

/-- A byte less a number, taken over the integers, is a difference of bytes. -/
theorem ofInt_sub_natCast (a : Byte) (k : Nat) : BitVec.ofInt 8 ((a.toNat : Int) - k) = a - BitVec.ofNat 8 k := by
  have ha := a.isLt
  apply BitVec.eq_of_toNat_eq
  rw [BitVec.toNat_ofInt, BitVec.toNat_sub, BitVec.toNat_ofNat]
  omega

/-- INC gives 0 exactly at FF (R187). -/
theorem inc8_eq (v : Byte) (old : Flags) : inc8 v old =
    (v + 1, { z := decide (v = 0xFF), n := false, h := decide (v.toNat % 16 = 0x0F), c := old.c }) := by
  have hres : BitVec.ofNat 8 (v.toNat + 1) = v + 1 := by simp [BitVec.ofNat_add]
  have hz : v + 1 = 0 ↔ v = 0xFF := by bv_omega
  simp only [inc8, hres, hz]

/-- DEC gives 0 exactly at 01 (R189). -/
theorem dec8_eq (v : Byte) (old : Flags) : dec8 v old =
    (v - 1, { z := decide (v = 0x01), n := true, h := decide (v.toNat % 16 = 0x00), c := old.c }) := by
  have hres : BitVec.ofInt 8 ((v.toNat : Int) - 1) = v - 1 := ofInt_sub_natCast v 1
  have hz : v - 1 = 0 ↔ v = 0x01 := by bv_omega
  simp only [dec8, hres, hz]

/-- The complement as a number (R192). -/
theorem not_byte_eq (a : Byte) : ~~~a = BitVec.ofNat 8 (255 - a.toNat) := by
  apply BitVec.eq_of_toNat_eq
  rw [BitVec.toNat_not, BitVec.toNat_ofNat]
  omega

/-! ## The operations on the operand they read -/

/-- The words of an ALU operation are those of its code, whatever the operand (R160). -/
theorem alu_bytes (op : AluOp) (src : AluSrc) : (Form.alu op src).bytes = aluWords op.code src := by
  cases src with
  | reg r => rfl
  | atHl | imm n8 => simp [Form.bytes, aluWords, Nat.add_right_comm]

section
variable {op : AluOp} {src : AluSrc} {s : State} {out : Byte × Flags}

/-- The operand's read cycle changes neither A nor the carry flag. -/
theorem aluOp_eq (hout : aluCompute op s.regs.a (operandOf src s).1 s.flags.c = out) : aluOp op src s =
    (if aluWritesA op then (operandOf src s).2.setReg .a out.1 else (operandOf src s).2).withFlags out.2 := by
  rw [aluOp, readSrc_eq, operandOf_regs, operandOf_flags, hout]

/-- An ALU instruction that writes A stores the result and the flags of its computation. -/
theorem runs_alu {i : Instr} {code : Nat} (h : opOf i = .alu op src) (hcode : op.code = code)
    (hwrites : aluWritesA op = true) (hout : aluCompute op s.regs.a (operandOf src s).1 s.flags.c = out) :
    Runs i (aluWords code src) s (((operandOf src s).2.setReg .a out.1).withFlags out.2) :=
  runs_of_form h (hcode ▸ alu_bytes op src) ((aluOp_eq hout).trans (by rw [if_pos hwrites]))

end

theorem incOp_eq (x : Loc8) (s : State) : incOp x s =
    (storedAt x (inc8 (operandAt x s).1 s.flags).1 (operandAt x s).2).withFlags (inc8 (operandAt x s).1 s.flags).2 := by
  rw [incOp, readLoc_eq, writeLoc_eq, operandAt_flags]
theorem decOp_eq (x : Loc8) (s : State) : decOp x s =
    (storedAt x (dec8 (operandAt x s).1 s.flags).1 (operandAt x s).2).withFlags (dec8 (operandAt x s).1 s.flags).2 := by
  rw [decOp, readLoc_eq, writeLoc_eq, operandAt_flags]

/-! ## DAA as one correction (R191) -/

/-- Whether DAA corrects the high digit. -/
def daaHigh (a : Byte) (fl : Flags) : Bool := fl.c || (!fl.n && decide (a.toNat > 0x99))

/-- Whether DAA corrects the low digit. -/
def daaLow (a : Byte) (fl : Flags) : Bool := fl.h || (!fl.n && decide (a.toNat % 16 > 0x09))

/-- What DAA adds or subtracts. -/
def daaCorrection (a : Byte) (fl : Flags) : Nat :=
  (if daaHigh a fl then 0x60 else 0) + (if daaLow a fl then 0x06 else 0)

/-- What DAA leaves in A. -/
def daaResult (a : Byte) (fl : Flags) : Byte :=
  BitVec.ofNat 8 (if fl.n then a.toNat + 256 - daaCorrection a fl else a.toNat + daaCorrection a fl)

theorem daaCorrection_le (a : Byte) (fl : Flags) : daaCorrection a fl ≤ 0x66 := by
  unfold daaCorrection
  split <;> split <;> decide

/-- The result as a sum or a difference of bytes. -/
theorem daaResult_eq (a : Byte) (fl : Flags) : daaResult a fl =
    if fl.n then a - BitVec.ofNat 8 (daaCorrection a fl) else a + BitVec.ofNat 8 (daaCorrection a fl) := by
  have hle := daaCorrection_le a fl
  unfold daaResult
  split
  · apply BitVec.eq_of_toNat_eq
    rw [BitVec.toNat_ofNat, BitVec.toNat_sub, BitVec.toNat_ofNat]
    omega
  · rw [BitVec.ofNat_add, BitVec.ofNat_toNat, BitVec.setWidth_eq]

/-- A correction added where it is asked for, as a sum. -/
theorem ite_add_eq (p : Bool) (a : Byte) (k : Nat) :
    (if p then BitVec.ofNat 8 (a.toNat + k) else a) = a + BitVec.ofNat 8 (if p then k else 0) := by
  cases p <;> simp [BitVec.ofNat_add]

/-- A correction subtracted where it is asked for, as a difference. -/
theorem ite_sub_eq (p : Bool) (a : Byte) (k : Nat) :
    (if p then BitVec.ofInt 8 ((a.toNat : Int) - k) else a) = a - BitVec.ofNat 8 (if p then k else 0) := by
  cases p <;> simp [ofInt_sub_natCast]

/-- The two corrections of R191 are one: the high correction keeps the digit that asks for the low one. -/
theorem daa8_eq (a : Byte) (fl : Flags) : daa8 a fl =
    (daaResult a fl, { z := decide (daaResult a fl = 0), n := fl.n, h := false, c := daaHigh a fl }) := by
  rw [daaResult_eq]
  obtain ⟨z, n, h, c⟩ := fl
  cases n with
  | false =>
    have lowDigit : (a + BitVec.ofNat 8 (if c || decide (a.toNat > 0x99) then 0x60 else 0)).toNat % 16 =
        a.toNat % 16 := by
      rw [BitVec.toNat_add, BitVec.toNat_ofNat]
      split <;> omega
    simp only [daa8, if_true, ite_add_eq, lowDigit, BitVec.add_assoc, ← BitVec.ofNat_add]
    simp [daaCorrection, daaHigh, daaLow]
  | true =>
    have high := ite_sub_eq c a 0x60
    have low := (ite_sub_eq h · 0x06)
    simp only [Nat.cast_ofNat] at high low
    simp only [daa8, Bool.true_eq_false, if_false, high, low, sub_sub, ← BitVec.ofNat_add]
    simp [daaCorrection, daaHigh, daaLow]

/-! ## Packed decimal -/

/-- A number below 100 as its two decimal digits, one in each half of a byte. -/
def packed (k : Nat) : Byte := BitVec.ofNat 8 (k / 10 * 16 + k % 10)

theorem packed_toNat {k : Nat} (hk : k < 100) : (packed k).toNat = k / 10 * 16 + k % 10 := by
  rw [packed, BitVec.toNat_ofNat]
  omega

/-- Digit sums corrected where they pass 9 are the decimal digits: `hi` and `lo` are what two digits and a carry
add up to. -/
theorem corrected_digits {hi lo : Nat} (hhi : hi ≤ 18) (hlo : lo ≤ 19) :
    (hi * 16 + lo + ((if hi * 10 + lo > 99 then 0x60 else 0) + if lo > 9 then 0x06 else 0)) % 256 =
      (hi * 10 + lo) % 100 / 10 * 16 + (hi * 10 + lo) % 100 % 10 := by
  have tens : (hi * 10 + lo) % 100 / 10 = (hi + lo / 10) % 10 := by omega
  have ones : (hi * 10 + lo) % 100 % 10 = lo % 10 := by omega
  rw [tens, ones]
  clear tens ones -- `omega` does not decide the cases with the quotients by 100 among its facts
  split <;> split <;> omega

/-- DAA of a binary sum, whose digits added up to `hi` and `lo`. -/
theorem daa8_digitSum {a : Byte} {fl : Flags} {hi lo : Nat} (hhi : hi ≤ 18) (hlo : lo ≤ 19)
    (ha : a.toNat = (hi * 16 + lo) % 256) (hn : fl.n = false) (hh : fl.h = decide (lo > 0x0F))
    (hc : fl.c = decide (hi * 16 + lo > 0xFF)) :
    (daa8 a fl).1 = packed ((hi * 10 + lo) % 100) ∧ (daa8 a fl).2.c = decide (hi * 10 + lo > 99) := by
  have high : daaHigh a fl = decide (hi * 10 + lo > 99) := by
    simp only [daaHigh, hn, hc, ha, Bool.not_false, Bool.true_and, ← Bool.decide_or, decide_eq_decide]
    omega
  have low : daaLow a fl = decide (lo > 9) := by
    simp only [daaLow, hn, hh, ha, Bool.not_false, Bool.true_and, ← Bool.decide_or, decide_eq_decide]
    omega
  rw [daa8_eq]
  refine ⟨BitVec.eq_of_toNat_eq ?_, high⟩
  rw [packed_toNat (Nat.mod_lt _ (by decide)), ← corrected_digits hhi hlo]
  simp [daaResult, daaCorrection, high, low, hn, ha]

/-- ADD or ADC, then DAA, is the decimal sum. -/
theorem daa8_add8_packed {x y k : Nat} (hx : x < 100) (hy : y < 100) {cin : Bool} (hk : cin.toNat = k) :
    let sum := add8 (packed x) (packed y) cin
    (daa8 sum.1 sum.2).1 = packed ((x + y + k) % 100) ∧ (daa8 sum.1 sum.2).2.c = decide (x + y + k > 99) := by
  have hle : k ≤ 1 := hk ▸ Bool.toNat_le cin
  have digits : x + y + k = (x / 10 + y / 10) * 10 + (x % 10 + y % 10 + k) := by omega
  rw [add8_eq hk, packed_toNat hx, packed_toNat hy, digits]
  refine daa8_digitSum (by omega) (by omega) ?_ rfl ?_ ?_
  · rw [BitVec.toNat_ofNat]
    omega
  · rw [decide_eq_decide]
    omega
  · rw [decide_eq_decide]
    omega

/-- The digits of a difference, corrected where they borrowed, are the decimal digits. -/
theorem corrected_borrows {x y k : Nat} (hx : x < 100) (hy : y < 100) (hk : k ≤ 1) :
    ((x / 10 * 16 + x % 10 + 256 - (y / 10 * 16 + y % 10) - k) % 256 + 256 -
      ((if x < y + k then 0x60 else 0) + if x % 10 < y % 10 + k then 0x06 else 0)) % 256 =
        (x + 100 - y - k) % 100 / 10 * 16 + (x + 100 - y - k) % 100 % 10 := by
  split <;> split <;> omega

/-- SUB or SBC, then DAA, is the decimal difference. -/
theorem daa8_sub8_packed {x y k : Nat} (hx : x < 100) (hy : y < 100) {cin : Bool} (hk : cin.toNat = k) :
    let diff := sub8 (packed x) (packed y) cin
    (daa8 diff.1 diff.2).1 = packed ((x + 100 - y - k) % 100) ∧ (daa8 diff.1 diff.2).2.c = decide (x < y + k) := by
  have hle : k ≤ 1 := hk ▸ Bool.toNat_le cin
  intro diff
  have hdiff : diff = _ := sub8_eq hk
  rw [packed_toNat hx, packed_toNat hy] at hdiff
  have high : daaHigh diff.1 diff.2 = decide (x < y + k) := by
    simp only [daaHigh, hdiff, Bool.not_true, Bool.false_and, Bool.or_false, decide_eq_decide]
    omega
  have low : daaLow diff.1 diff.2 = decide (x % 10 < y % 10 + k) := by
    simp only [daaLow, hdiff, Bool.not_true, Bool.false_and, Bool.or_false, decide_eq_decide]
    omega
  rw [daa8_eq]
  refine ⟨BitVec.eq_of_toNat_eq ?_, high⟩
  rw [packed_toNat (Nat.mod_lt _ (by decide)), ← corrected_borrows hx hy hle]
  rw [daaResult, daaCorrection, high, low]
  simp [hdiff]

@[simp] theorem afterFetch_regs (n : Nat) (s : State) : (afterFetch n s).regs = s.regs := by simp [afterFetch]
@[simp] theorem afterFetch_flags (n : Nat) (s : State) : (afterFetch n s).flags = s.flags := by simp [afterFetch]
@[simp] theorem setReg_a_regs_a (v : Byte) (s : State) : (s.setReg .a v).regs.a = v := rfl

theorem daaOp_regs_a (s : State) : (daaOp s).regs.a = (daa8 s.regs.a s.flags).1 := rfl
theorem daaOp_flags (s : State) : (daaOp s).flags = (daa8 s.regs.a s.flags).2 := rfl

/-- An ALU operation that writes A, then DAA, leaves DAA of the result and flags. -/
theorem exec_alu_daa {op : AluOp} (hop : aluWritesA op = true) (r : Reg8) (s : State) {out : Byte × Flags}
    (hout : aluCompute op s.regs.a (s.reg r) s.flags.c = out) {res : Byte} {carry : Bool}
    (h : (daa8 out.1 out.2).1 = res ∧ (daa8 out.1 out.2).2.c = carry) :
    ∃ t u, exec (Form.alu op (.reg r)).instr s = Host.Outcome.next t ∧
      exec .daa (afterFetch 1 t) = Host.Outcome.next u ∧ u.regs.a = res ∧ u.flags.c = carry := by
  have ht : aluOp op (.reg r) s = (s.setReg .a out.1).withFlags out.2 := by
    rw [aluOp_eq (src := .reg r) hout, if_pos hop]
    rfl
  refine ⟨_, daaOp _, (exec_instr _ s).trans (congrArg _ ht), exec_eq .daa _, ?_⟩
  simpa only [daaOp_regs_a, daaOp_flags, afterFetch_regs, afterFetch_flags, State.withFlags_regs, State.withFlags_flags,
    setReg_a_regs_a] using h

end Sys2Proof.Machine

open Sys2Proof Sys2Proof.Machine

/-- Settles O17: the sum and the carries of `Add8`, with the carry flag for ADC. -/
theorem additionsSetAccumulatorAndFlags : Obligations.AdditionsSetAccumulatorAndFlags := by
  intro i src s
  exact ⟨fun h => runs_alu h rfl rfl (add8_eq rfl), fun h => runs_alu h rfl rfl (add8_eq rfl)⟩

/-- Settles O18: the difference and the borrows of `Sub8`, with the carry flag for SBC; CP keeps A. -/
theorem subtractionsSetAccumulatorAndFlags : Obligations.SubtractionsSetAccumulatorAndFlags := by
  intro i src s
  exact ⟨fun h => runs_alu h rfl rfl (sub8_eq rfl), fun h => runs_alu h rfl rfl (sub8_eq rfl),
    fun h => runs_of_form h (alu_bytes .cp src) (aluOp_eq (op := .cp) (sub8_eq rfl))⟩

/-- Settles O19: the bitwise operations are computed as the rules write them. -/
theorem logicSetsAccumulatorAndFlags : Obligations.LogicSetsAccumulatorAndFlags :=
  fun _ _ _ => ⟨fun h => runs_alu h rfl rfl rfl, fun h => runs_alu h rfl rfl rfl, fun h => runs_alu h rfl rfl rfl⟩

/-- Settles O20: the operand is read and stored once, with the result of `inc8` or `dec8`. -/
theorem incDecSetByteAndFlags : Obligations.IncDecSetByteAndFlags := by
  refine fun i x s => ⟨fun h => runs_of_form h rfl ?_, fun h => runs_of_form h rfl ?_⟩
  · exact (incOp_eq x s).trans (by rw [inc8_eq])
  · exact (decOp_eq x s).trans (by rw [dec8_eq])

/-- Settles O21: the rule's two corrections as one. -/
theorem daaCorrects : Obligations.DaaCorrects :=
  fun _ s h => runs_of_form h rfl (by rw [execForm, daaOp, daa8_eq]; rfl)

/-- Settles O22: DAA corrects the binary result digit by digit. -/
theorem daaMakesDecimalArithmetic : Obligations.DaaMakesDecimalArithmetic := by
  intro r s x y hx hy bcd decimal cin ha hr
  have operands (op : AluOp) : aluCompute op s.regs.a (s.reg r) s.flags.c =
      aluCompute op (packed x) (packed y) s.flags.c := by
    rw [ha, hr]
    rfl
  exact ⟨exec_alu_daa rfl r s (operands .add) (daa8_add8_packed (k := 0) hx hy rfl),
    exec_alu_daa rfl r s (operands .adc) (daa8_add8_packed (k := cin) hx hy rfl),
    exec_alu_daa rfl r s (operands .sub) (daa8_sub8_packed (k := 0) hx hy rfl),
    exec_alu_daa rfl r s (operands .sbc) (daa8_sub8_packed (k := cin) hx hy rfl)⟩

/-- Settles O23: SCF and CCF as the rules write them, and CPL's complement as a number. -/
theorem cplScfCcfResults : Obligations.CplScfCcfResults := by
  refine fun i s =>
    ⟨fun h => runs_of_form h rfl ?_, fun h => runs_of_form h rfl rfl, fun h => runs_of_form h rfl rfl⟩
  rw [← not_byte_eq]
  rfl
end

section
/-! 16-bit arithmetic (42_alu16.md): each result as the number its rule writes, so an instruction of the family is its
form's internal cycles and that result. -/

namespace Sys2Proof.Machine

/-- INC's result as a number (R202). -/
theorem word_add_one_eq (v : Word) : v + 1 = BitVec.ofNat 16 (v.toNat + 1) := by
  apply BitVec.eq_of_toNat_eq
  rw [BitVec.toNat_add, BitVec.toNat_ofNat]
  rfl

/-- DEC's result as a number that never goes below 0 (R203). -/
theorem word_sub_one_eq (v : Word) : v - 1 = BitVec.ofNat 16 (v.toNat + 0xFFFF) := by
  apply BitVec.eq_of_toNat_eq
  rw [BitVec.toNat_sub, BitVec.toNat_ofNat, Nat.add_comm]
  rfl

/-- `AddSPe8` as R200 writes it: the sum over the integers is the sum with the sign-extended displacement. -/
theorem addSpDisp_eq (sp : Word) (e : Byte) : addSpDisp sp e =
    (sp + e.signExtend 16,
      { z := false, n := false
        h := decide (sp.toNat % 16 + e.toNat % 16 > 0x0F), c := decide (sp.toNat % 256 + e.toNat > 0xFF) }) := by
  have hres : BitVec.ofInt 16 ((sp.toNat : Int) + e.toInt) = sp + e.signExtend 16 := by
    rw [BitVec.ofInt_add, BitVec.ofInt_natCast, BitVec.ofNat_toNat, BitVec.setWidth_eq]
    rfl
  rw [addSpDisp, hres]

/-! ## The operations with their internal cycles counted -/

theorem incPairOp_eq (rr : Pair) (s : State) :
    incPairOp rr s = (advance 1 s).setPair rr (BitVec.ofNat 16 ((s.pair rr).toNat + 1)) := by
  rw [incPairOp, internal_eq, word_add_one_eq]
theorem decPairOp_eq (rr : Pair) (s : State) :
    decPairOp rr s = (advance 1 s).setPair rr (BitVec.ofNat 16 ((s.pair rr).toNat + 0xFFFF)) := by
  rw [decPairOp, internal_eq, word_sub_one_eq]
theorem addHlOp_eq (rr : Pair) (s : State) : addHlOp rr s =
    ((advance 1 s).setHl (add16 s.hl (s.pair rr) s.flags).1).withFlags (add16 s.hl (s.pair rr) s.flags).2 := by
  rw [addHlOp, internal_eq]
theorem addSpE8Op_eq (e8 : Byte) (s : State) : addSpE8Op e8 s =
    ((advance 2 s).withSp (addSpDisp s.sp e8).1).withFlags (addSpDisp s.sp e8).2 := by
  rw [addSpE8Op, internal_eq, internal_eq, advance_advance]
theorem ldHlSpE8Op_eq (e8 : Byte) (s : State) : ldHlSpE8Op e8 s =
    ((advance 1 s).setHl (addSpDisp s.sp e8).1).withFlags (addSpDisp s.sp e8).2 := by
  rw [ldHlSpE8Op, internal_eq]

end Sys2Proof.Machine

open Sys2Proof Sys2Proof.Machine

/-- Settles O24: `add16` computes as R201 writes it, and INC and DEC are sums modulo 2^16. -/
theorem pairArithmetic : Obligations.PairArithmetic :=
  fun _ rr s => ⟨fun h => runs_of_form h rfl (addHlOp_eq rr s), fun h => runs_of_form h rfl (incPairOp_eq rr s),
    fun h => runs_of_form h rfl (decPairOp_eq rr s)⟩

/-- Settles O25: both forms write the one sum of `AddSPe8`. -/
theorem spDisplacementSums : Obligations.SpDisplacementSums := by
  refine fun i e8 s => ⟨fun h => runs_of_form h rfl ?_, fun h => runs_of_form h rfl ?_⟩
  · exact (addSpE8Op_eq e8 s).trans (by rw [addSpDisp_eq])
  · exact (ldHlSpE8Op_eq e8 s).trans (by rw [addSpDisp_eq])
end

section
/-! Rotates, shifts and bits (43_rotate_cb.md): each computation as its rule writes it, and the CB operations over the
operand they read. -/

namespace Sys2Proof.Machine

/-! ## A shift as the bits kept and the bit that comes in -/

/-- The byte whose bit 0 is `b` and whose other bits are 0. -/
def bitByte (b : Bool) : Byte := if b then 1 else 0

theorem bitByte_eq_ofNat (b : Bool) : bitByte b = BitVec.ofNat 8 b.toNat := by cases b <;> rfl

/-- A byte put together from its high and its low bits. -/
theorem ofNat_high_add_low {k lo : Nat} (hlo : lo < 2 ^ k) (hi : Nat) :
    BitVec.ofNat 8 (hi * 2 ^ k + lo) = (BitVec.ofNat 8 hi <<< k) ||| BitVec.ofNat 8 lo := by
  have hshift : BitVec.ofNat 8 (2 ^ k * hi) = BitVec.ofNat 8 hi <<< k := by
    apply BitVec.eq_of_toNat_eq
    simp [Nat.shiftLeft_eq, Nat.mul_comm]
  rw [Nat.mul_comm, Nat.two_pow_add_eq_or_of_lt hlo, BitVec.ofNat_or, hshift]

/-- A quotient by a power of two is a right shift. -/
theorem ofNat_div_two_pow (v : Byte) (k : Nat) : BitVec.ofNat 8 (v.toNat / 2 ^ k) = v >>> k := by
  rw [← Nat.shiftRight_eq_div_pow, ← BitVec.toNat_ushiftRight, BitVec.ofNat_toNat, BitVec.setWidth_eq]

/-- A left shift keeps only the bits it does not move out. -/
theorem ofNat_mod_shiftLeft (v : Byte) {k : Nat} (hk : k ≤ 8) :
    BitVec.ofNat 8 (v.toNat % 2 ^ (8 - k)) <<< k = v <<< k := by
  apply BitVec.eq_of_toNat_eq
  rw [BitVec.toNat_shiftLeft, BitVec.toNat_shiftLeft, BitVec.toNat_ofNat, Nat.shiftLeft_eq, Nat.shiftLeft_eq,
    Nat.mod_mul_mod, ← Nat.mul_mod_mul_right, ← Nat.pow_add, Nat.sub_add_cancel hk, Nat.mod_mod]

theorem shiftLeftIn_eq (v : Byte) (b : Bool) : shiftLeftIn v b = (v <<< 1) ||| bitByte b := by
  have h := ofNat_high_add_low (k := 1) b.toNat_lt v.toNat
  rwa [← bitByte_eq_ofNat, BitVec.ofNat_toNat, BitVec.setWidth_eq] at h

theorem shiftRightIn_eq (v : Byte) (b : Bool) : shiftRightIn v b = (v >>> 1) ||| (bitByte b <<< 7) := by
  have hlo : v.toNat / 2 ^ 1 < 2 ^ 7 := by omega
  have h := ofNat_high_add_low hlo b.toNat
  rw [← bitByte_eq_ofNat, ofNat_div_two_pow, Nat.add_comm, BitVec.or_comm] at h
  exact h

/-! ## The bit that a rotate or an arithmetic shift brings back in -/

theorem bitByte_bit7 (v : Byte) : bitByte (v.getLsbD 7) = v >>> 7 := by
  rw [← ofNat_div_two_pow, bitByte_eq_ofNat, BitVec.getLsbD, Nat.toNat_testBit]
  congr 1
  omega

theorem bitByte_bit0_shiftLeft (v : Byte) : bitByte (v.getLsbD 0) <<< 7 = v <<< 7 := by
  rw [bitByte_eq_ofNat, BitVec.getLsbD, Nat.toNat_testBit, Nat.pow_zero, Nat.div_one]
  exact ofNat_mod_shiftLeft v (k := 7) (by decide)

theorem bitByte_bit7_shiftLeft (v : Byte) : bitByte (v.getLsbD 7) <<< 7 = v &&& 0x80 := by
  rw [show (0x80 : Byte) = BitVec.twoPow 8 7 from rfl, BitVec.and_twoPow]
  cases v.getLsbD 7 <;> rfl

/-! ## The computations as the rules write them (R225 to R240) -/

section
variable (v : Byte) (cin : Bool)

theorem rotCompute_rlc : rotCompute .rlc v cin = (v.rotateLeft 1, v.getLsbD 7) := by
  rw [rotCompute, shiftLeftIn_eq, bitByte_bit7]
  rfl
theorem rotCompute_rrc : rotCompute .rrc v cin = (v.rotateRight 1, v.getLsbD 0) := by
  rw [rotCompute, shiftRightIn_eq, bitByte_bit0_shiftLeft]
  rfl
theorem rotCompute_rl : rotCompute .rl v cin = ((v <<< 1) ||| bitByte cin, v.getLsbD 7) := by
  rw [rotCompute, shiftLeftIn_eq]
theorem rotCompute_rr : rotCompute .rr v cin = ((v >>> 1) ||| (bitByte cin <<< 7), v.getLsbD 0) := by
  rw [rotCompute, shiftRightIn_eq]
theorem rotCompute_sla : rotCompute .sla v cin = (v <<< 1, v.getLsbD 7) := by
  rw [rotCompute, shiftLeftIn_eq]
  exact congrArg (·, _) BitVec.or_zero
theorem rotCompute_sra : rotCompute .sra v cin = ((v >>> 1) ||| (v &&& 0x80), v.getLsbD 0) := by
  rw [rotCompute, shiftRightIn_eq, bitByte_bit7_shiftLeft]
theorem rotCompute_swap : rotCompute .swap v cin = ((v <<< 4) ||| (v >>> 4), false) := by
  have hlo : v.toNat / 2 ^ 4 < 2 ^ 4 := by omega
  have hhi : BitVec.ofNat 8 (v.toNat % 16) <<< 4 = v <<< 4 := ofNat_mod_shiftLeft v (k := 4) (by decide)
  have h := ofNat_high_add_low hlo (v.toNat % 16)
  rw [hhi, ofNat_div_two_pow] at h
  exact congrArg (·, false) h
theorem rotCompute_srl : rotCompute .srl v cin = (v >>> 1, v.getLsbD 0) := by
  rw [rotCompute, shiftRightIn_eq]
  exact congrArg (·, _) BitVec.or_zero

end

/-! ## The operations on the operand they read -/

section
variable {i : Instr} {op : RotOp} {s : State} {out : Byte × Bool}

/-- An accumulator rotate stores the result and the carry of its computation on A, and clears the other flags. -/
theorem accRotOp_eq (hout : rotCompute op s.regs.a s.flags.c = out) : accRotOp op s =
    (s.setReg .a out.1).withFlags { z := false, n := false, h := false, c := out.2 } := by
  rw [accRotOp, hout]

/-- The operand's read cycle does not change the carry flag. -/
theorem rotOp_eq {x : Loc8} (hout : rotCompute op (operandAt x s).1 s.flags.c = out) : rotOp op x s =
    (storedAt x out.1 (operandAt x s).2).withFlags (rotFlags out.1 out.2) := by
  rw [rotOp, readLoc_eq, writeLoc_eq, operandAt_flags, hout]

/-- A CB rotate or shift has the word of its variant, and stores the result and the flags of its computation. -/
theorem runs_rot {x : Loc8} {y : Nat} (h : opOf i = .rot op x) (hcode : op.code = y)
    (hout : rotCompute op (operandAt x s).1 s.flags.c = out) : Runs i [0xCB, BitVec.ofNat 8 (y * 8 + x.code)] s
      ((storedAt x out.1 (operandAt x s).2).withFlags (rotFlags out.1 out.2)) :=
  runs_of_form h (by rw [Form.bytes, hcode, cbBytes, Nat.zero_mul, Nat.zero_add]; rfl) (rotOp_eq hout)

end

section
variable (b : Fin 8) (x : Loc8) (s : State)

theorem bitOp_eq : bitOp b x s = (operandAt x s).2.withFlags (bitFlags b (operandAt x s).1 s.flags) := by
  rw [bitOp, readLoc_eq, operandAt_flags]
theorem resOp_eq : resOp b x s = storedAt x (clearBit b (operandAt x s).1) (operandAt x s).2 := by
  rw [resOp, readLoc_eq, writeLoc_eq]
theorem setOp_eq : setOp b x s = storedAt x (setBit b (operandAt x s).1) (operandAt x s).2 := by
  rw [setOp, readLoc_eq, writeLoc_eq]

end

end Sys2Proof.Machine

open Sys2Proof Sys2Proof.Machine

/-- Settles O26: A is rotated as the CB rotates rotate their operand. -/
theorem accumulatorRotates : Obligations.AccumulatorRotates :=
  fun _ _ => ⟨fun h => runs_of_form h rfl (accRotOp_eq (rotCompute_rlc ..)),
    fun h => runs_of_form h rfl (accRotOp_eq (rotCompute_rrc ..)),
    fun h => runs_of_form h rfl (accRotOp_eq (rotCompute_rl ..)),
    fun h => runs_of_form h rfl (accRotOp_eq (rotCompute_rr ..))⟩

/-- Settles O27: each variant by its computation. -/
theorem cbRotates : Obligations.CbRotates :=
  fun _ _ _ => ⟨fun h => runs_rot h rfl (rotCompute_rlc ..), fun h => runs_rot h rfl (rotCompute_rrc ..),
    fun h => runs_rot h rfl (rotCompute_rl ..), fun h => runs_rot h rfl (rotCompute_rr ..)⟩

/-- Settles O28: each variant by its computation. -/
theorem cbShifts : Obligations.CbShifts :=
  fun _ _ _ => ⟨fun h => runs_rot h rfl (rotCompute_sla ..), fun h => runs_rot h rfl (rotCompute_sra ..),
    fun h => runs_rot h rfl (rotCompute_swap ..), fun h => runs_rot h rfl (rotCompute_srl ..)⟩

/-- Settles O29: BIT reads the operand and writes only flags, RES and SET store it back with the bit cleared or set. -/
theorem bitResSetResults : Obligations.BitResSetResults :=
  fun _ b x s => ⟨fun h => runs_of_form h rfl (bitOp_eq b x s), fun h => runs_of_form h rfl (resOp_eq b x s),
    fun h => runs_of_form h rfl (setOp_eq b x s)⟩
end

section
/-! Control transfer (44_control.md): a jump is an internal cycle and the new PC, a call pushes PC in between, a return
pops it before its internal cycle. -/

namespace Sys2Proof.Machine

/-! ## The operations with their machine cycles counted -/

section
variable (target a16 : Word) (cc : Cond) (e8 : Byte) (s : State)

theorem jpOp_eq : jpOp a16 s = (advance 1 s).withPc a16 := by
  rw [jpOp, internal_eq]
theorem jpCcOp_eq : jpCcOp cc a16 s = if s.cond cc then (advance 1 s).withPc a16 else s := by
  rw [jpCcOp, jpOp_eq]
/-- JR's displacement is signed, and PC is past the instruction's bytes (R254). -/
theorem jrOp_eq : jrOp e8 s = (advance 1 s).withPc (s.pc + e8.signExtend 16) := by
  rw [jrOp, internal_eq, sext16]
theorem jrCcOp_eq : jrCcOp cc e8 s = if s.cond cc then (advance 1 s).withPc (s.pc + e8.signExtend 16) else s := by
  rw [jrCcOp, jrOp_eq]

/-- The internal cycle of a call leaves PC, so the address of the next instruction is pushed (R256, R261). -/
theorem callTo_eq : callTo target s = (afterPush s.pc (advance 1 s)).withPc target := by
  rw [callTo, internal_eq, advance_pc, push16_eq]
theorem callCcOp_eq :
    callCcOp cc a16 s = if s.cond cc then (afterPush s.pc (advance 1 s)).withPc a16 else s := by
  rw [callCcOp, callTo_eq]

/-- Two pop cycles and an internal cycle (R258). -/
theorem retOp_eq : retOp s = ((advance 3 s).withSp (s.sp + 2)).withPc (poppedWord s) := by
  rw [retOp, pop16_eq, internal_eq, advance_withSp, advance_advance]
/-- The internal cycle before the condition of RET cc leaves the flags (R259). -/
theorem retCcOp_eq : retCcOp cc s = if s.cond cc then retOp (advance 1 s) else advance 1 s := by
  rw [retCcOp, internal_eq, cond_advance]
/-- The return from an interrupt is a RET that also sets IME (R260). -/
theorem retiOp_eq : retiOp s = (retOp s).withIme true := by
  rw [retiOp, returnFromInterrupt, retOp]

end

end Sys2Proof.Machine

open Sys2Proof Sys2Proof.Machine

/-- Settles O30: each condition is its flag or the complement, and each jump its operation. -/
theorem jumpsSetPc : Obligations.JumpsSetPc := by
  intro i cc a16 e8 s
  have conditions : s.cond .nz = !s.flags.z ∧ s.cond .z = s.flags.z ∧
      s.cond .nc = !s.flags.c ∧ s.cond .c = s.flags.c := ⟨rfl, rfl, rfl, rfl⟩
  exact ⟨conditions, fun h => runs_of_form h rfl (jpOp_eq a16 s),
    fun h => runs_of_form h rfl (jpCcOp_eq a16 cc s),
    fun h => runs_of_form h rfl rfl,
    fun h => runs_of_form h rfl (jrOp_eq e8 s),
    fun h => runs_of_form h rfl (jrCcOp_eq cc e8 s)⟩

/-- Settles O31: the three are one call, to the operand or to the vector of RST. -/
theorem callsPushAndJump : Obligations.CallsPushAndJump := by
  intro i cc a16 y s
  exact ⟨fun h => runs_of_form h rfl (callTo_eq a16 s),
    fun h => runs_of_form h rfl (callCcOp_eq a16 cc s),
    fun h => runs_of_form h rfl (callTo_eq (BitVec.ofNat 16 (y.val * 8)) s)⟩

/-- Settles O32: the three are one return, RET cc from the state after its first internal cycle. -/
theorem returnsPopPc : Obligations.ReturnsPopPc := by
  intro i cc s
  exact ⟨fun h => runs_of_form h rfl (retOp_eq s),
    fun h => runs_of_form h rfl ((retCcOp_eq cc s).trans (by rw [retOp_eq])),
    fun h => runs_of_form h rfl ((retiOp_eq s).trans (by rw [retOp_eq]))⟩
end

section
/-! Miscellaneous and system instructions (45_misc.md): the step of an opcode with no operand bytes is its form's effect
after one fetch cycle, and the interrupt phase after it depends on IME, EI's latch and the pending sources. -/

namespace Sys2Proof.Machine

@[simp] theorem afterFetch_ime (n : Nat) (s : State) : (afterFetch n s).ime = s.ime := by simp [afterFetch]

/-! ## The step of a core that fetches -/

section
variable {s : State}

/-- A core that is neither stopped nor halted goes the third way of a step (R301). -/
theorem step_of_fetches (hs : s.fetches) : ∃ i, decode (fetchedList (fetchLength s) s) = .ok (i, []) ∧
    step s = .next (endStep (execForm (opOf i) (afterFetch (fetchLength s) s))) := by
  obtain ⟨hstopped, hhalted⟩ := hs
  obtain ⟨h, -⟩ | ⟨-, h, -⟩ | ⟨-, run⟩ := step_cases s
  · exact absurd h (by simp [hstopped])
  · exact absurd h (by simp [hhalted])
  · exact run

/-- What a row executes as is its form's operation. -/
theorem execForm_opOf_instr (form : Form) (s : State) : execForm (opOf form.instr) s = execForm form s := by
  rw [opOf, Form.instr_form, execForm_resolve]

/-- An opcode with no operand bytes runs its primary row after the opcode's own fetch cycle. -/
theorem step_of_opcode (hs : s.fetches) {op : Byte} (hop : busRead s.pc (advance 1 s) = op) {form : Form}
    (hcount : operandCount op = 0) (hform : decodePrimary op 0 0 = form) :
    step s = .next (endStep (execForm form (afterFetch 1 s))) := by
  obtain ⟨i, hdecode, hstep⟩ := step_of_fetches hs
  have hlength : fetchLength s = 1 := by rw [fetchLength, hop, hcount]
  have hrow : decode [op] = .ok (form.instr, []) := by
    subst hform
    simp [decode, hcount]
  rw [hlength, fetchedList, fetchedList, hop, hrow] at hdecode
  cases hdecode
  rw [hstep, hlength, execForm_opOf_instr]

/-- A fatal error ends the step (R301). -/
theorem endStep_fatal (kind : FaultKind) (op : Byte) (pc0 : Word) (s : State) :
    endStep (fatal kind op pc0 s) = fatal kind op pc0 s := rfl

/-- A form that does not stop the core leaves the rest of the step to the interrupt phase (R303). -/
theorem step_of_running (hs : s.fetches) {op : Byte} (hop : busRead s.pc (advance 1 s) = op) {form : Form}
    (hcount : operandCount op = 0) (hform : decodePrimary op 0 0 = form) {u : State}
    (heffect : execForm form (afterFetch 1 s) = u) (hrunning : u.stopped = false) :
    step s = .next (interruptPhase u) := by
  rw [step_of_opcode hs hop hcount hform, heffect, endStep, hrunning]
  rfl

/-- A form that raises a fatal error at the address of its one byte, one before PC, ends the step with it (R309). -/
theorem step_of_fatal (hs : s.fetches) {op : Byte} (hop : busRead s.pc (advance 1 s) = op) {form : Form}
    (hcount : operandCount op = 0) (hform : decodePrimary op 0 0 = form) {kind : FaultKind}
    (hfatal : ∀ u, execForm form u = fatal kind op (u.pc - 1) u) :
    step s = .next ((((advance 1 s).withPc (s.pc + 1)).withStopped true).withFault
      (some { kind := kind, opcode := op, pc := s.pc })) := by
  have hpc : (afterFetch 1 s).pc - 1 = s.pc := BitVec.add_sub_cancel s.pc 1
  rw [step_of_opcode hs hop hcount hform, hfatal, endStep_fatal, hpc]
  rfl

/-- The opcode of a row that the primary table answers as illegal is the row's byte, with no operand bytes (R103). -/
theorem byte_of_decodePrimary_illegal {op b1 b2 : Byte} {x : IllegalOp} (h : decodePrimary op b1 b2 = .illegal x) :
    x.byte = op ∧ operandCount op = 0 := by
  have words := decodePrimary_words op b1 b2
  rw [h] at words
  obtain ⟨rfl, -⟩ := List.cons.inj words
  exact ⟨rfl, by cases x <;> rfl⟩

end

/-! ## The bytes at PC and the bytes a step fetches -/

/-- More bytes after an instruction are left over. -/
theorem decode_append {words rest : List Byte} {i : Instr} (h : decode words = .ok (i, rest)) (tail : List Byte) :
    decode (words ++ tail) = .ok (i, rest ++ tail) := by
  cases words with
  | nil => cases h
  | cons op operands =>
    rw [List.cons_append]
    simp only [decode] at h
    split at h
    case h_4 => cases h
    all_goals
      cases h
      simp [decode, *]

/-- A longer fetch goes on where a shorter one ends. -/
theorem fetchedList_add (n m : Nat) (s : State) :
    fetchedList (n + m) s = fetchedList n s ++ fetchedList m (afterFetch n s) := by
  induction n generalizing s with
  | zero => rw [Nat.zero_add, afterFetch_zero]; rfl
  | succ n ih => rw [Nat.succ_add, fetchedList, ih, afterFetch_afterFetch, Nat.add_comm 1 n]; rfl

theorem bytesAtPc_eq_fetchedList (s : State) : bytesAtPc s = fetchedList 3 s := by
  simp only [bytesAtPc, fetchedList, afterFetch, advance_withPc, advance_advance, busRead_withPc, State.withPc_pc,
    BitVec.add_assoc]
  rfl

theorem fetchLength_le (s : State) : fetchLength s ≤ 3 := Nat.succ_le_succ (operandCount_le _)

/-- The words of the instruction that a step decodes are as many as it fetched (R107). -/
theorem encode_length_of_fetched {s : State} {i : Instr}
    (h : decode (fetchedList (fetchLength s) s) = .ok (i, [])) : (encode i).length = fetchLength s := by
  obtain ⟨operands, hlength, -, hwords⟩ := encode_of_decode h
  rw [hwords, List.length_cons, hlength, fetchLength]

/-- A core that fetches runs what the bytes at PC decode to, then the interrupt phase unless it stopped. -/
theorem step_runs_bytesAtPc {s : State} (hs : s.fetches) : ∃ i rest t, decode (bytesAtPc s) = .ok (i, rest) ∧
    exec i (afterFetch (encode i).length s) = .next t ∧
    step s = .next (if t.stopped then t else interruptPhase t) := by
  obtain ⟨i, hdecode, hstep⟩ := step_of_fetches hs
  have more := decode_append hdecode (fetchedList (3 - fetchLength s) (afterFetch (fetchLength s) s))
  rw [← fetchedList_add, Nat.add_sub_cancel' (fetchLength_le s), ← bytesAtPc_eq_fetchedList] at more
  refine ⟨i, _, _, more, exec_op i _, ?_⟩
  rw [encode_length_of_fetched hdecode]
  exact hstep

/-! ## Pending sources (R303, R304) -/

/-- A source is pending when its bits of IE and IF are both set. -/
theorem getLsbD_pending {k : Nat} (hk : k < 5) (s : State) :
    (pending s).getLsbD k = (s.ie.getLsbD k && s.intFlags.getLsbD k) := by
  have hmask : (0x1F : Byte).getLsbD k = true := by
    revert k; decide
  rw [pending, BitVec.getLsbD_and, BitVec.getLsbD_and, hmask, Bool.and_true]

/-- Bits 5 to 7 are never pending. -/
theorem pending_eq_zero_iff {s : State} :
    pending s = 0 ↔ ∀ k, k < 5 → (s.ie.getLsbD k && s.intFlags.getLsbD k) = false := by
  constructor
  · intro h k hk
    rw [← getLsbD_pending hk, h]
    exact BitVec.getLsbD_zero
  · intro h
    apply BitVec.eq_of_getLsbD_eq
    intro k hk
    rw [show (0 : Byte).getLsbD k = false from BitVec.getLsbD_zero]
    by_cases hlow : k < 5
    · rw [getLsbD_pending hlow, h k hlow]
    · have hmask : (0x1F : Byte).getLsbD k = false := by
        obtain rfl | rfl | rfl : k = 5 ∨ k = 6 ∨ k = 7 := by omega
        all_goals rfl
      rw [pending, BitVec.getLsbD_and, hmask, Bool.and_false]

theorem sourceBit_lt (i : IntSource) : sourceBit i < 5 := by cases i <;> decide

/-- The lowest set bit names the source to dispatch. -/
theorem lowestPending_eq_some {pend : Byte} {i : IntSource} (hset : pend.getLsbD (sourceBit i) = true)
    (hclear : ∀ k, k < sourceBit i → pend.getLsbD k = false) : lowestPending pend = some i := by
  have clear (k : Nat) (hk : k < sourceBit i) : ¬ pend.getLsbD k = true := by simp [hclear k hk]
  unfold lowestPending
  cases i with
  | vblank => exact if_pos hset
  | lcdStat =>
    rw [if_neg (clear 0 (by decide))]
    exact if_pos hset
  | timer =>
    rw [if_neg (clear 0 (by decide)), if_neg (clear 1 (by decide))]
    exact if_pos hset
  | serial =>
    rw [if_neg (clear 0 (by decide)), if_neg (clear 1 (by decide)), if_neg (clear 2 (by decide))]
    exact if_pos hset
  | joypad =>
    rw [if_neg (clear 0 (by decide)), if_neg (clear 1 (by decide)), if_neg (clear 2 (by decide)),
      if_neg (clear 3 (by decide))]
    exact if_pos hset

/-- The pending source with no pending source below it is the one to dispatch. -/
theorem lowestPending_pending {s : State} {i : IntSource}
    (hset : (s.ie.getLsbD (sourceBit i) && s.intFlags.getLsbD (sourceBit i)) = true)
    (hclear : ∀ k, k < sourceBit i → (s.ie.getLsbD k && s.intFlags.getLsbD k) = false) :
    lowestPending (pending s) = some i := by
  have hi := sourceBit_lt i
  refine lowestPending_eq_some ((getLsbD_pending hi s).trans hset) fun k hk => ?_
  exact (getLsbD_pending (hk.trans hi) s).trans (hclear k hk)

/-! ## The interrupt phase by IME and the latch (R303, R307, R308) -/

@[simp] theorem dispatch_imeScheduled (i : IntSource) (s : State) :
    (dispatch i s).imeScheduled = s.imeScheduled := by
  simp [dispatch]

section
variable {s : State}

theorem interruptPhase_of_ime_clear (hime : s.ime = false) : interruptPhase s =
    ((s.withHalted (s.halted && decide (pending s = 0))).withIme s.imeScheduled).withImeScheduled false := by
  obtain ⟨h, -⟩ | ⟨h, -⟩ | ⟨-, h⟩ := interruptPhase_cases s
  · simp [hime] at h
  · simp [hime] at h
  · exact h

theorem interruptPhase_of_latch_clear (hime : s.ime = false) (hlatch : s.imeScheduled = false) :
    interruptPhase s = s.withHalted (s.halted && decide (pending s = 0)) := by
  rw [interruptPhase_of_ime_clear hime, hlatch]
  generalize (s.halted && decide (pending s = 0)) = v
  rw [State.withIme_eq_self (s := s.withHalted v) hime, State.withImeScheduled_eq_self (s := s.withHalted v) hlatch]

theorem interruptPhase_promotes (hime : s.ime = false) (hlatch : s.imeScheduled = true) (hhalted : s.halted = false) :
    interruptPhase s = (s.withIme true).withImeScheduled false := by
  rw [interruptPhase_of_ime_clear hime, hlatch, State.withHalted_eq_self (by simp [hhalted])]

theorem interruptPhase_of_none_pending (hlatch : s.imeScheduled = false) (hnone : pending s = 0) :
    interruptPhase s = s := by
  cases hime : s.ime with
  | true =>
    have hlow : lowestPending (pending s) = none := by rw [hnone]; rfl
    simp [interruptPhase, hime, hlow, State.withImeScheduled_eq_self hlatch]
  | false =>
    rw [interruptPhase_of_latch_clear hime hlatch]
    exact State.withHalted_eq_self (by simp [hnone])

theorem interruptPhase_dispatches {i : IntSource} (hime : s.ime = true) (hlatch : s.imeScheduled = false)
    (hlow : lowestPending (pending s) = some i) : interruptPhase s = dispatch i s := by
  have kept : (dispatch i s).imeScheduled = false := (dispatch_imeScheduled i s).trans hlatch
  simp [interruptPhase, hime, hlow, State.withImeScheduled_eq_self kept]

end

end Sys2Proof.Machine

open Sys2Proof Sys2Proof.Machine

/-- Settles O34: each form has one update, or none. -/
theorem nopHaltDiEiResults : Obligations.NopHaltDiEiResults :=
  fun _ _ => ⟨fun h => runs_of_form h rfl rfl, fun h => runs_of_form h rfl rfl, fun h => runs_of_form h rfl rfl,
    fun h => runs_of_form h rfl rfl⟩

/-- Settles O35: both are the one fatal operation, at the address one before PC. -/
theorem fatalInstructionsRecordReport : Obligations.FatalInstructionsRecordReport :=
  fun _ x _ => ⟨fun h => runs_of_form h rfl rfl, fun h => ⟨illegalOp_byte_mem x, runs_of_form h rfl rfl⟩⟩

/-- Settles O36: the primary table answers the opcode's own illegal row, which is a fatal error. -/
theorem illegalOpcodeStopsTheCore : Obligations.IllegalOpcodeStopsTheCore := by
  intro s hs hmem
  obtain ⟨x, hrow⟩ := decodePrimary_illegal_iff (b1 := 0) (b2 := 0) |>.mpr hmem
  obtain ⟨hbyte, hcount⟩ := byte_of_decodePrimary_illegal hrow
  refine ⟨step_of_fatal hs rfl hcount hrow fun u => ?_, rfl⟩
  rw [← hbyte]
  rfl

/-- Settles O37: STOP is a fatal error, with no operand byte fetched. -/
theorem stopStopsTheCore : Obligations.StopStopsTheCore :=
  fun _ hs hop => ⟨step_of_fatal hs hop rfl rfl fun _ => rfl, rfl⟩

/-- Settles O43: the interrupt phase of the core that HALT has just halted. -/
theorem haltStep : Obligations.HaltStep := by
  intro s hs hlatch hop t both
  have hstep : step s = .next (interruptPhase (t.withHalted true)) :=
    step_of_running (form := .halt) hs hop rfl rfl rfl (by simpa [t] using hs.1)
  have hlatch' : (t.withHalted true).imeScheduled = false := by simpa [t] using hlatch
  have hime : (t.withHalted true).ime = s.ime := by simp [t]
  refine ⟨fun hnone => ?_, fun hclear hsome => ?_, fun i hset hbit hlower => ?_⟩
  · rw [hstep, interruptPhase_of_none_pending hlatch' (pending_eq_zero_iff.mpr hnone)]
  · obtain ⟨k, hk, hbit⟩ := hsome
    have hpending : pending (t.withHalted true) ≠ 0 := fun h => by
      simpa [both] using hbit.symm.trans (pending_eq_zero_iff.mp h k hk)
    rw [hstep, interruptPhase_of_latch_clear (hime.trans hclear) hlatch', decide_eq_false hpending, Bool.and_false]
    rfl
  · rw [hstep, interruptPhase_dispatches (hime.trans hset) hlatch' (lowestPending_pending hbit hlower)]

/-- Settles O45: EI's own interrupt phase only promotes the latch, and DI's finds IME and the latch clear. -/
theorem eiTakesEffectAfterNextInstruction : Obligations.EiTakesEffectAfterNextInstruction := by
  intro s hs hime hop t
  have ht : t.fetches := ⟨by simpa [t] using hs.1, by simpa [t] using hs.2⟩
  refine ⟨?_, step_runs_bytesAtPc ht, fun hdi => ?_⟩
  · have hstep : step s = .next (interruptPhase ((afterFetch 1 s).withImeScheduled true)) :=
      step_of_running (form := .ei) hs hop rfl rfl rfl (by simpa using hs.1)
    rw [hstep, interruptPhase_promotes (by simpa using hime) rfl (by simpa using hs.2)]
    rfl
  · have hstep : step t = .next (interruptPhase ((afterFetch 1 t).withIme false)) :=
      step_of_running (form := .di) ht hdi rfl rfl rfl (by simpa using ht.1)
    rw [hstep, interruptPhase_of_latch_clear rfl (by simp [t]), State.withHalted_eq_self (by simp [ht.2])]
    rfl
end

section
/-! The timer (R315, R316): ticks move DIV, and count TIMA once for each multiple of its period that DIV reaches. -/

namespace Sys2Proof.Machine

/-- The state with the divider replaced. -/
def State.withDiv (s : State) (d : BitVec 16) : State := s.withTimer { s.timer with div := d }

@[simp] theorem State.withDiv_div (s : State) (d : BitVec 16) : (s.withDiv d).timer.div = d := rfl
@[simp] theorem State.withDiv_tac (s : State) (d : BitVec 16) : (s.withDiv d).timer.tac = s.timer.tac := rfl
theorem State.withDiv_withDiv (s : State) (d e : BitVec 16) : (s.withDiv d).withDiv e = s.withDiv e := rfl

/-- TIMA's increment does not look at the divider. -/
theorem timaIncrement_withDiv (d : BitVec 16) (s : State) :
    timaIncrement (s.withDiv d) = (timaIncrement s).withDiv d := by
  by_cases h : s.timer.tima = 0xFF
  · rw [timaIncrement_overflow h, timaIncrement_overflow (s := s.withDiv d) h]; rfl
  · rw [timaIncrement_count h, timaIncrement_count (s := s.withDiv d) h]; rfl

/-! ## The period of TIMA -/

/-- TAC selects one of four divider bits (R36). -/
theorem selectedBit_eq_of_getElem? {tac : BitVec 3} {sel : Nat}
    (h : [9, 3, 5, 7][(tac.extractLsb' 0 2).toNat]? = some sel) : selectedBit tac = sel := by
  have table : [9, 3, 5, 7][(tac.extractLsb' 0 2).toNat]? = some (selectedBit tac) := by
    clear h
    revert tac; decide
  exact Option.some.inj (table.symm.trans h)

theorem selectedBit_cases (tac : BitVec 3) :
    selectedBit tac = 9 ∨ selectedBit tac = 3 ∨ selectedBit tac = 5 ∨ selectedBit tac = 7 := by
  revert tac; decide

/-- The selected bit falls in a tick exactly where the divider reaches a multiple of `2^(sel+1)`. -/
theorem selectedBit_falls_iff (tac : BitVec 3) (d : BitVec 16) :
    (d.getLsbD (selectedBit tac) && !(d + 1).getLsbD (selectedBit tac)) = true ↔
      2 ^ (selectedBit tac + 1) ∣ d.toNat + 1 := by
  simp only [BitVec.getLsbD, BitVec.toNat_add, show (1 : BitVec 16).toNat = 1 from rfl,
    Nat.testBit_eq_decide_div_mod_eq, Bool.and_eq_true, Bool.not_eq_true', decide_eq_true_eq, decide_eq_false_iff_not]
  obtain h | h | h | h := selectedBit_cases tac <;> rw [h] <;> omega

/-- The divider's wrap at `2^16` does not disturb the period. -/
theorem period_dvd_div_iff (tac : BitVec 3) (d : BitVec 16) (n : Nat) :
    2 ^ (selectedBit tac + 1) ∣ (d + BitVec.ofNat 16 n).toNat + 1 ↔
      2 ^ (selectedBit tac + 1) ∣ d.toNat % 2 ^ (selectedBit tac + 1) + n + 1 := by
  rw [BitVec.toNat_add, BitVec.toNat_ofNat, Nat.add_mod_mod]
  obtain h | h | h | h := selectedBit_cases tac <;> rw [h] <;> omega

/-! ## How often TIMA counts -/

/-- How many times `n` ticks from `s` increment TIMA. -/
def timaCount (n : Nat) (s : State) : Nat :=
  let period := 2 ^ (selectedBit s.timer.tac + 1)
  if timerEnabled s.timer.tac then (s.timer.div.toNat % period + n) / period else 0

theorem timaCount_disabled {s : State} (h : timerEnabled s.timer.tac = false) (n : Nat) : timaCount n s = 0 := by
  simp [timaCount, h]

theorem timaCount_zero (s : State) : timaCount 0 s = 0 := by
  unfold timaCount
  split
  · exact Nat.div_eq_of_lt (Nat.mod_lt _ (Nat.two_pow_pos _))
  · rfl

/-- A period of ticks has one increment, wherever the divider stands. -/
theorem timaCount_period {s : State} (h : timerEnabled s.timer.tac = true) :
    timaCount (2 ^ (selectedBit s.timer.tac + 1)) s = 1 := by
  have hpos := Nat.two_pow_pos (selectedBit s.timer.tac + 1)
  rw [timaCount, if_pos h, Nat.add_div_right _ hpos, Nat.div_eq_of_lt (Nat.mod_lt _ hpos)]

/-- One more tick counts once more exactly on a falling edge. -/
theorem timaCount_succ (n : Nat) (s : State) : timaCount (n + 1) s = timaCount n s +
    if divFalls (s.timer.div + BitVec.ofNat 16 n + 1) (s.withDiv (s.timer.div + BitVec.ofNat 16 n)) then 1 else 0 := by
  cases h : timerEnabled s.timer.tac with
  | false => simp [timaCount_disabled h, divFalls, h]
  | true =>
    have falls := (selectedBit_falls_iff s.timer.tac _).trans (period_dvd_div_iff s.timer.tac s.timer.div n)
    simp only [timaCount, divFalls, State.withDiv_div, State.withDiv_tac, h, Bool.true_and, falls, if_true]
    exact Nat.succ_div

/-! ## What ticks do -/

theorem divFalls_congr {d : BitVec 16} {s t : State} (hdiv : s.timer.div = t.timer.div)
    (htac : s.timer.tac = t.timer.tac) : divFalls d s = divFalls d t := by
  rw [divFalls, divFalls, hdiv, htac]

theorem moveDiv_eq_iterate (d : BitVec 16) (s : State) :
    moveDiv d s = (timaIncrement^[if divFalls d s then 1 else 0] s).withDiv d := by
  by_cases h : divFalls d s = true
  · rw [moveDiv_falling h, if_pos h]
    exact timaIncrement_withDiv d s
  · rw [moveDiv_steady h, if_neg h]
    rfl

@[simp] theorem iterate_timaIncrement_tac (m : Nat) (s : State) :
    (timaIncrement^[m] s).timer.tac = s.timer.tac := by
  induction m with
  | zero => rfl
  | succ m ih => rw [Function.iterate_succ_apply', timaIncrement_tac, ih]

theorem iterate_timaIncrement_withDiv (m : Nat) (d : BitVec 16) (s : State) :
    timaIncrement^[m] (s.withDiv d) = (timaIncrement^[m] s).withDiv d :=
  (Function.Semiconj.iterate_right (f := (State.withDiv · d)) (fun s => (timaIncrement_withDiv d s).symm) m s).symm

/-- `n` ticks add `n` to the divider and increment TIMA `timaCount n` times. -/
theorem advance_eq_iterate (n : Nat) (s : State) :
    advance n s = (timaIncrement^[timaCount n s] s).withDiv (s.timer.div + BitVec.ofNat 16 n) := by
  induction n with
  | zero =>
    rw [timaCount_zero, BitVec.add_zero]
    rfl
  | succ n ih =>
    have next : s.timer.div + BitVec.ofNat 16 (n + 1) = s.timer.div + BitVec.ofNat 16 n + 1 := by
      rw [BitVec.ofNat_add, BitVec.add_assoc]
      rfl
    have edge : divFalls (s.timer.div + BitVec.ofNat 16 n + 1) (advance n s) =
        divFalls (s.timer.div + BitVec.ofNat 16 n + 1) (s.withDiv (s.timer.div + BitVec.ofNat 16 n)) :=
      divFalls_congr (by rw [ih]; rfl) (by rw [ih]; simp)
    calc advance (n + 1) s
      _ = timerTick (advance n s) := (advance_advance 1 n s).symm
      _ = _ := by
        rw [timerTick, advance_div, moveDiv_eq_iterate, edge, next, timaCount_succ, Nat.add_comm,
          Function.iterate_add_apply, ih, iterate_timaIncrement_withDiv, State.withDiv_withDiv]

theorem timerTick_eq (s : State) : timerTick s =
    if timerEnabled s.timer.tac = true ∧ s.timer.div.getLsbD (selectedBit s.timer.tac) = true ∧
        (s.timer.div + 1).getLsbD (selectedBit s.timer.tac) = false
      then timaIncrement (s.withDiv (s.timer.div + 1)) else s.withDiv (s.timer.div + 1) := by
  simp [timerTick, moveDiv, State.withDiv]

end Sys2Proof.Machine

open Sys2Proof Sys2Proof.Machine

/-- Settles O46: the divider reaches one multiple of the period in every period of ticks. -/
theorem timerTickRule : Obligations.TimerTickRule := by
  intro s sel counted hsel
  obtain rfl := selectedBit_eq_of_getElem? hsel
  refine ⟨rfl, timerTick_eq s, fun hen => ?_, fun hdis n => ?_⟩
  · rw [advance_eq_iterate, timaCount_period hen, Function.iterate_one, ← timaIncrement_withDiv]
    rfl
  · rw [advance_eq_iterate, timaCount_disabled hdis]
    rfl

/-- Settles O47: a request sets one bit, which is then set already. -/
theorem timaIncrementRule : Obligations.TimaIncrementRule := by
  intro s i
  refine ⟨timaIncrement_overflow, timaIncrement_count, ⟨rfl, rfl, rfl, rfl, rfl⟩, ?_⟩
  simp only [requestInterrupt, State.withIntFlags_intFlags, BitVec.or_assoc, BitVec.or_self]
  rfl
end

section
/-! Exceptions (60_exceptions.md): the ways of a step that fetch nothing, what stops the core, the interrupt phase and the dispatch. -/

namespace Sys2Proof.Machine

/-! ## The ways of a step that fetch nothing (R300, R302) -/

section
variable {s : State}

theorem step_of_stopped (h : s.stopped = true) : step s = .next s := by
  simp only [step, h, if_true]

theorem step_of_halted (hs : s.stopped = false) (hh : s.halted = true) :
    step s = .next (interruptPhase (advance 1 s)) := by
  simp only [step, hs, hh, internal_eq, Bool.false_eq_true, if_false, if_true]

end

/-! ## What stops the core (R309, R310) -/

/-- The interrupt phase stops nothing. -/
@[simp] theorem interruptPhase_stopped (s : State) : (interruptPhase s).stopped = s.stopped := by
  obtain ⟨-, i, -, h⟩ | ⟨-, -, h⟩ | ⟨-, h⟩ := interruptPhase_cases s <;> simp [h]

@[simp] theorem endStep_stopped (s : State) : (endStep s).stopped = s.stopped := by
  unfold endStep
  split
  · rfl
  · exact interruptPhase_stopped s

/-- An instruction of one byte was fetched as that byte, in one cycle. -/
theorem fetched_of_bytes {s : State} {i : Instr} {op : Byte}
    (h : decode (fetchedList (fetchLength s) s) = .ok (i, [])) (hwords : (opOf i).bytes = [op]) :
    busRead s.pc (advance 1 s) = op ∧ fetchLength s = 1 := by
  have hlength := encode_length_of_fetched h
  obtain ⟨operands, -, -, hencode⟩ := encode_of_decode h
  rw [encode_op, hwords] at hlength hencode
  exact ⟨(List.cons.inj hencode).1.symm, hlength.symm⟩

/-- The step that a fatal error ends leaves the report of the opcode fetched, at its address. -/
theorem fault_of_fatal_step {s : State} {form : Form} {kind : FaultKind} {op : Byte}
    (hop : busRead s.pc (advance 1 s) = op) (hlength : fetchLength s = 1)
    (hfatal : ∀ u, execForm form u = fatal kind op (u.pc - 1) u) :
    (endStep (execForm form (afterFetch (fetchLength s) s))).fault =
      some { kind := kind, opcode := busRead s.pc (advance 1 s), pc := s.pc } := by
  have hpc : (afterFetch 1 s).pc - 1 = s.pc := BitVec.add_sub_cancel s.pc 1
  rw [hlength, hfatal, endStep_fatal, hpc, hop]
  rfl

/-- The two causes of a stop: the form that a fetching core ran is STOP's or an unmapped opcode's. -/
theorem stop_or_illegal_of_stopped {form : Form} (hform : ∀ sub, form ≠ .prefixCb sub) {s : State}
    (hs : s.stopped = false) (h : (endStep (execForm form s)).stopped = true) :
    form = .stop ∨ ∃ x, form = .illegal x := by
  by_contra hother
  rw [not_or, not_exists] at hother
  obtain ⟨hstop, hillegal⟩ := hother
  obtain ⟨stoppedKept, -⟩ := (execForm_controlKept form hform s).run hstop hillegal
  rw [endStep_stopped, stoppedKept, hs] at h
  contradiction

/-! ## Pending sources and the wake (R303, R304, R308) -/

theorem lowestPending_zero : lowestPending 0 = none := rfl

theorem pending_ne_zero_iff {s : State} :
    pending s ≠ 0 ↔ ∃ k, k < 5 ∧ (s.ie.getLsbD k && s.intFlags.getLsbD k) = true := by
  rw [ne_eq, pending_eq_zero_iff]
  simp only [not_forall, exists_prop, Bool.not_eq_false]

/-- The sources that wake a halted core, listed bit by bit. -/
theorem any_pending_iff (s : State) :
    [0, 1, 2, 3, 4].any (fun k => s.ie.getLsbD k && s.intFlags.getLsbD k) = true ↔ pending s ≠ 0 := by
  rw [pending_ne_zero_iff, show [0, 1, 2, 3, 4] = List.range 5 from rfl, List.any_eq_true]
  simp only [List.mem_range]

theorem wake_eq (s : State) :
    (if s.halted = true ∧ [0, 1, 2, 3, 4].any (fun k => s.ie.getLsbD k && s.intFlags.getLsbD k) = true
      then s.withHalted false else s) = s.withHalted (s.halted && decide (pending s = 0)) := by
  rw [← haltWake_eq]
  exact if_congr (by rw [any_pending_iff, Bool.and_eq_true, decide_eq_true_iff]) rfl rfl

section
variable {s : State} (hime : s.ime = true)
include hime

theorem interruptPhase_of_lowestPending {i : IntSource} (h : lowestPending (pending s) = some i) :
    interruptPhase s = (dispatch i s).withImeScheduled false := by
  simp only [interruptPhase, hime, h, if_true]

theorem interruptPhase_of_nothing_pending (h : pending s = 0) : interruptPhase s = s.withImeScheduled false := by
  simp only [interruptPhase, hime, h, lowestPending_zero, if_true]

end

/-! ## Dispatch (R305) -/

/-- Two internal cycles, the push of PC and one more, then the vector, the source's IF bit, IME and `halted`. -/
theorem dispatch_eq (i : IntSource) (s : State) :
    let q := advance 1 (afterPush s.pc (advance 2 s))
    dispatch i s = (((q.withPc (sourceVector i)).withIntFlags
      (q.intFlags &&& ~~~(BitVec.twoPow 8 (sourceBit i)))).withIme false).withHalted false := by
  simp only [dispatch, internal_eq, advance_advance, push16_eq, advance_pc]

end Sys2Proof.Machine

open Sys2Proof Sys2Proof.Machine

/-- Settles O39: each of the three ways of a step has a next state, and so has every instruction. -/
theorem stepIsTotal : Obligations.StepIsTotal := by
  have returns (t : State) : stepReturns t = false ↔ t.stopped = true := by simp [stepReturns]
  refine ⟨fun s => ?_, fun i s => ⟨_, exec_eq i s⟩⟩
  obtain ⟨-, h⟩ | ⟨hs, -, h⟩ | ⟨⟨hs, -⟩, i, -, h⟩ := step_cases s
  · exact ⟨s, h, fun _ => rfl, returns s⟩
  · exact ⟨_, h, by simp [hs], returns _⟩
  · exact ⟨_, h, by simp [hs], returns _⟩

/-- Settles O40: the step decodes the bytes it fetched, which are the first of those at PC. -/
theorem stepRunsDecodedInstruction : Obligations.StepRunsDecodedInstruction :=
  fun _ => ⟨step_of_stopped, step_of_halted, step_runs_bytesAtPc⟩

/-- Settles O38: only the two fatal forms set `stopped`, and each has the one opcode byte of its report. -/
theorem onlyUnmappedOrStopOpcodesStop : Obligations.OnlyUnmappedOrStopOpcodesStop := by
  intro s t hs hstep ht
  obtain ⟨h, -⟩ | ⟨-, -, h⟩ | ⟨⟨-, hh⟩, i, hdecode, h⟩ := step_cases s
  · simp [hs] at h
  · cases h.symm.trans hstep
    simp [hs] at ht
  · cases h.symm.trans hstep
    refine ⟨hh, ?_⟩
    obtain hstop | ⟨x, hillegal⟩ := stop_or_illegal_of_stopped (opOf_ne_prefixCb i) (by simpa using hs) ht
    · obtain ⟨hop, hlength⟩ := fetched_of_bytes (op := 0x10) hdecode (by rw [hstop]; rfl)
      rw [hstop]
      exact ⟨.executeFailure, fault_of_fatal_step hop hlength fun _ => rfl, .inr ⟨rfl, hop⟩⟩
    · obtain ⟨hop, hlength⟩ := fetched_of_bytes (op := x.byte) hdecode (by rw [hillegal]; rfl)
      rw [hillegal]
      exact ⟨.decodeFailure, fault_of_fatal_step hop hlength fun _ => rfl, .inl ⟨rfl, hop ▸ illegalOp_byte_mem x⟩⟩

/-- Settles O41: the pending byte is the AND of IE and IF on bits 0 to 4. -/
theorem interruptPhaseRule : Obligations.InterruptPhaseRule := by
  intro s i both number woken
  have hnumber : number = sourceBit i := by cases i <;> rfl
  have hwoken : woken = s.withHalted (s.halted && decide (pending s = 0)) := wake_eq s
  rw [hnumber, hwoken]
  refine ⟨fun hime hbit hlower => ?_, fun hime hnone => ?_, fun hime hlatch => ?_, fun hime hlatch => ?_⟩
  · exact interruptPhase_of_lowestPending hime (lowestPending_pending hbit hlower)
  · exact interruptPhase_of_nothing_pending hime (pending_eq_zero_iff.mpr hnone)
  · rw [interruptPhase_of_ime_clear hime, hlatch]
  · exact interruptPhase_of_latch_clear hime hlatch

/-- Settles O42: the vectors and the masks of the five sources by computation. -/
theorem dispatchRule : Obligations.DispatchRule :=
  fun s => ⟨dispatch_eq .vblank s, dispatch_eq .lcdStat s, dispatch_eq .timer s, dispatch_eq .serial s,
    dispatch_eq .joypad s⟩

/-- Settles O44: the interrupt phase after the one cycle, with the latch clear. -/
theorem haltedStepTicksOnce : Obligations.HaltedStepTicksOnce := by
  intro s hs hh hlatch t both
  have hstep : step s = .next (interruptPhase t) := step_of_halted hs hh
  have hlatch' : t.imeScheduled = false := by simpa [t] using hlatch
  refine ⟨hstep, fun hnone => ⟨?_, by simp [t], by simp [t, hh], by simp [t]⟩, fun hclear hsome => ?_⟩
  · rw [hstep, interruptPhase_of_none_pending hlatch' (pending_eq_zero_iff.mpr hnone)]
  · rw [hstep, interruptPhase_of_latch_clear (by simpa [t] using hclear) hlatch',
      decide_eq_false (pending_ne_zero_iff.mpr hsome), Bool.and_false]
end

section
/-! A return after a push of PC (R256, R258, R260, R305): in storage, the pops read what was pushed. -/

namespace Sys2Proof.Machine

/-- To storage, a dispatch is its push. -/
theorem busRead_dispatch_storage {a : Word} (ha : isStorage a = true) (i : IntSource) (s : State) :
    busRead a (dispatch i s) = busRead a (afterPush s.pc (advance 2 s)) := by
  obtain ⟨k, hk⟩ | ⟨k, hk⟩ | ⟨k, hk⟩ := isStorage_iff.mp ha <;> simp [dispatch_eq, busRead, hk]

/-- A return goes to the word pushed, whatever the bus did since besides storage, and gives back SP. -/
theorem retOp_of_pushed {s t : State} {v : Word} (hw : s.memWf = true) (hhi : isStorage (s.sp - 1) = true)
    (hlo : isStorage (s.sp - 2) = true) (hsp : t.sp = s.sp - 2)
    (hread : ∀ a, isStorage a = true → busRead a t = busRead a (afterPush v s)) (n : Nat) :
    (retOp (afterFetch n t)).pc = v ∧ (retOp (afterFetch n t)).sp = s.sp := by
  have hnext : s.sp - 2 + 1 = s.sp - 1 := by bv_omega
  have word : poppedWord (afterFetch n t) = v := by
    rw [poppedWord_storage (by rwa [afterFetch_sp, hsp]) (by rwa [afterFetch_sp, hsp, hnext]), afterFetch_sp, hsp,
      hnext, busRead_afterFetch_storage hhi, busRead_afterFetch_storage hlo, hread _ hhi, hread _ hlo,
      busRead_afterPush_high hw hhi, busRead_afterPush_low hw hlo, ofHiLo_hiByte_loByte]
  rw [retOp_eq]
  exact ⟨word, by simp [hsp]⟩

section
variable {s : State} (hw : s.memWf = true) (hhi : isStorage (s.sp - 1) = true) (hlo : isStorage (s.sp - 2) = true)
include hw hhi hlo

theorem retOp_callTo (target : Word) (n : Nat) :
    (retOp (afterFetch n (callTo target s))).pc = s.pc ∧ (retOp (afterFetch n (callTo target s))).sp = s.sp := by
  rw [callTo_eq]
  have back := retOp_of_pushed (s := advance 1 s) (t := (afterPush s.pc (advance 1 s)).withPc target) (v := s.pc)
    (by simpa using hw) (by simpa using hhi) (by simpa using hlo) (by simp) (fun a _ => busRead_withPc ..) n
  rwa [advance_sp] at back

theorem retOp_dispatch (i : IntSource) (n : Nat) :
    (retOp (afterFetch n (dispatch i s))).pc = s.pc ∧ (retOp (afterFetch n (dispatch i s))).sp = s.sp := by
  have back := retOp_of_pushed (s := advance 2 s) (t := dispatch i s) (v := s.pc)
    (by simpa using hw) (by simpa using hhi) (by simpa using hlo) (by simp [dispatch_eq])
    (fun _ ha => busRead_dispatch_storage ha i s) n
  rwa [advance_sp] at back

end

end Sys2Proof.Machine

open Sys2Proof Sys2Proof.Machine

/-- Settles O33: the return's opcode fetch is the one byte in between. -/
theorem returnUndoesCall : Obligations.ReturnUndoesCall := by
  intro cc a16 y k s hw hhi hlo comesBack
  have back (target : Word) {i : Instr} (h : exec i s = .next (callTo target s)) : comesBack i := by
    obtain ⟨pc, sp⟩ := retOp_callTo hw hhi hlo target 1
    exact ⟨_, _, h, exec_eq .ret _, pc, sp⟩
  refine ⟨back a16 (exec_instr _ s), fun hcond => back a16 ?_, back _ (exec_instr _ s), ?_⟩
  · rw [exec_instr, execForm, callCcOp, if_pos hcond]
  · obtain ⟨pc, sp⟩ := retOp_dispatch hw hhi hlo k 1
    refine ⟨_, exec_eq .reti _, ?_⟩
    rw [show Instr.reti.form = .reti from rfl, execForm, retiOp_eq]
    exact ⟨pc, sp, rfl⟩
end

section
/-! The clock, which is the timer and IF: a tick reads nothing else, and a store moves it only at its own five registers,
so machine cycles that store elsewhere move it as that many ticks do (R357, R358). -/

namespace Sys2Proof.Machine

/-- Two states agree on the timer and IF. -/
structure SameClock (s t : State) : Prop where
  timer : s.timer = t.timer
  intFlags : s.intFlags = t.intFlags

theorem SameClock.trans {s t u : State} (h : SameClock s t) (k : SameClock t u) : SameClock s u :=
  ⟨h.timer.trans k.timer, h.intFlags.trans k.intFlags⟩
theorem SameBus.sameClock {s t : State} (h : SameBus s t) : SameClock s t := ⟨h.timer, h.intFlags⟩

/-- The addresses of DIV, TIMA, TMA, TAC and IF (R66). -/
abbrev clockAddrs : List Word := [0xFF04, 0xFF05, 0xFF06, 0xFF07, 0xFF0F]

/-! ## A tick moves the clock by the clock alone (R315, R316) -/

theorem timaIncrement_sameClock {s t : State} (h : SameClock s t) :
    SameClock (timaIncrement s) (timaIncrement t) := by
  unfold timaIncrement
  rw [h.timer]
  split
  · exact ⟨rfl, congrArg (· ||| _) h.intFlags⟩
  · exact ⟨rfl, h.intFlags⟩

theorem withTimer_sameClock {s t : State} (h : SameClock s t) (v : Timer) :
    SameClock (s.withTimer v) (t.withTimer v) :=
  ⟨rfl, h.intFlags⟩

theorem timerTick_sameClock {s t : State} (h : SameClock s t) : SameClock (timerTick s) (timerTick t) := by
  rw [timerTick_eq, timerTick_eq, State.withDiv, State.withDiv, h.timer]
  have moved := withTimer_sameClock h { t.timer with div := t.timer.div + 1 }
  split
  · exact timaIncrement_sameClock moved
  · exact moved

theorem advance_sameClock {s t : State} (h : SameClock s t) (n : Nat) : SameClock (advance n s) (advance n t) := by
  induction n generalizing s t with
  | zero => exact h
  | succ n ih => exact ih (timerTick_sameClock h)

/-! ## A store elsewhere leaves the clock alone -/

theorem ioRegAt_of_notMem_clockAddrs {a : Word} (h : a ∉ clockAddrs) :
    ioRegAt a.toNat = .sb ∨ ioRegAt a.toNat = .sc ∨ ioRegAt a.toNat = .unimplemented := by
  simp only [List.mem_cons, List.not_mem_nil, or_false, not_or, BitVec.toNat_eq] at h
  unfold ioRegAt
  split <;> simp_all

theorem busWrite_sameClock {a : Word} (h : a ∉ clockAddrs) (v : Byte) (s : State) : SameClock (busWrite a v s) s := by
  unfold busWrite
  split
  case h_4 r hr =>
    obtain ⟨-, rfl⟩ := regionOf_io_iff.mp hr
    obtain hreg | hreg | hreg := ioRegAt_of_notMem_clockAddrs h <;> rw [hreg] <;> exact ⟨rfl, rfl⟩
  all_goals exact ⟨rfl, rfl⟩

/-! ## Machine cycles -/

theorem runAccess_sameClock {x : Access} (h : ∀ a, a ∈ accessAddrs [x] → a ∉ clockAddrs) (s : State) :
    SameClock (runAccess x s) (advance 1 s) := by
  cases x with
  | none => exact ⟨rfl, rfl⟩
  | some store => exact busWrite_sameClock (h _ (List.mem_singleton_self _)) _ _

/-- Machine cycles that store to none of the five registers move the clock as one tick each. -/
theorem runAccesses_sameClock {l : List Access} (h : ∀ a, a ∈ accessAddrs l → a ∉ clockAddrs) (s : State) :
    SameClock (runAccesses l s) (advance l.length s) := by
  induction l generalizing s with
  | nil => exact ⟨rfl, rfl⟩
  | cons x rest ih =>
    rw [show x :: rest = [x] ++ rest from rfl, accessAddrs, List.filterMap_append, List.forall_mem_append] at h
    obtain ⟨hx, hrest⟩ := h
    have first := advance_sameClock (runAccess_sameClock hx s) rest.length
    rw [advance_advance, Nat.add_comm] at first
    exact (ih hrest (runAccess x s)).trans first

/-- The words and the machine cycles after them make up an instruction's cycle count. -/
theorem encode_length_add_accessesOf (i : Instr) (s : State) :
    (encode i).length + (accessesOf (opOf i) s).length = cyclesOf (opOf i) s := by
  rw [encode_op]
  exact accessesOf_length (opOf i) (opOf_ne_prefixCb i) s

end Sys2Proof.Machine

open Sys2Proof Sys2Proof.Machine

/-- Settles O57: an instruction is its fetch and then machine cycles, which store where its rule says. -/
theorem timerFrame : Obligations.TimerFrame := by
  intro i s t hexec
  rw [exec_op] at hexec
  cases hexec
  have count := encode_length_add_accessesOf i s
  refine ⟨Nat.le.intro count, fun hstores => ?_⟩
  rw [← accessesOf_addrs] at hstores
  have clock := (execForm_bus (opOf i) (opOf_ne_prefixCb i) s).sameClock.trans (runAccesses_sameClock hstores s)
  rw [cyclesAfterFetch, ← count, Nat.add_sub_cancel_left]
  exact ⟨clock.timer, clock.intFlags⟩
end

section
/-! The construction of the core and its reset (R350). -/

namespace Sys2Proof.Machine

/-- TAC keeps the low three bits of what it is given, and reads zero-extended (R36, R321). -/
theorem setWidth_extractLsb'_tac (v : Byte) : (v.extractLsb' 0 3).setWidth 8 = v &&& 0b111 := by
  revert v; decide

end Sys2Proof.Machine

open Sys2Proof Sys2Proof.Machine

/-- Settles O58: every field is given as it is, but F and TAC, which are masked. -/
theorem constructionRule : Obligations.ConstructionRule := by
  intro backing wram hram init s
  exact ⟨⟨rfl, rfl, rfl⟩, ⟨rfl, flagsToByte_flagsOfByte init.f, rfl, rfl⟩, ⟨rfl, rfl, rfl, rfl⟩,
    ⟨rfl, rfl, rfl, setWidth_extractLsb'_tac init.tac, rfl, rfl⟩, rfl, rfl, rfl⟩

/-- Settles O59: empty arrays are canonical, and there is no report that a rule would have to allow. -/
theorem resetHasInvariant : Obligations.ResetHasInvariant where
  memory := reset_memWf
  latch := rfl
  report := rfl
  awake := nofun
  legal := nofun
end

section
/-! Decoding and encoding are inverse to each other (R91 to R107): each form is decoded from its own words, and the
decoder answers no other name of the words it took. -/

namespace Sys2Proof.Machine

/-! ## Operand codes -/

@[simp] theorem loc8OfCode_code (x : Loc8) : loc8OfCode x.code = x := by
  rcases x with (_ | _ | _ | _ | _ | _ | _) | _ <;> rfl

@[simp] theorem rotOpOfCode_code (op : RotOp) : rotOpOfCode op.code = op := by
  cases op <;> rfl

theorem loc8_code_lt (x : Loc8) : x.code < 8 := by
  rcases x with (_ | _ | _ | _ | _ | _ | _) | _ <;> decide

theorem rotOp_code_lt (op : RotOp) : op.code < 8 := by
  cases op <;> decide

/-! ## The decoder on the words of a form -/

/-- A 16-bit operand is read back from its two bytes, the low byte first (R92, R97). -/
theorem decode_withWord {op : Nat} {form : Word → Form} (hcount : operandCount (byteOf op) = 2)
    (hrow : ∀ b1 b2, decodePrimary (byteOf op) b1 b2 = form (ofHiLo b2 b1)) (v : Word) :
    decode (withWord op v) = .ok ((form v).instr, []) := by
  simp only [withWord, decode, hcount, hrow, ofHiLo_hiByte_loByte]

/-- The words of a rotate or shift are decoded to the operation and the operand whose codes they hold (R101, R102). -/
theorem decode_cbBytes_rot (op : RotOp) (x : Loc8) :
    decode (cbBytes 0 op.code x.code) = .ok ((Form.rot op x).instr, []) := by
  obtain ⟨hrot, -⟩ := decodeCb_fields ⟨op.code, rotOp_code_lt op⟩ ⟨x.code, loc8_code_lt x⟩
  simp only [loc8OfCode_code, rotOpOfCode_code] at hrot
  exact decode_cb hrot []

/-- The words of BIT, RES and SET are decoded to the bit index and the operand whose codes they hold (R101). -/
theorem decode_cbBytes_bit (b : Fin 8) (x : Loc8) :
    decode (cbBytes 1 b.val x.code) = .ok ((Form.bit b x).instr, []) ∧
    decode (cbBytes 2 b.val x.code) = .ok ((Form.res b x).instr, []) ∧
    decode (cbBytes 3 b.val x.code) = .ok ((Form.set b x).instr, []) := by
  obtain ⟨-, hbit, hres, hset⟩ := decodeCb_fields b ⟨x.code, loc8_code_lt x⟩
  rw [loc8OfCode_code] at hbit hres hset
  exact ⟨decode_cb hbit [], decode_cb hres [], decode_cb hset []⟩

/-- Every form but PREFIX CB is decoded from its own words. -/
theorem decode_bytes {form : Form} (hcb : ∀ sub, form ≠ .prefixCb sub) :
    decode form.bytes = .ok (form.instr, []) := by
  cases form with
  | prefixCb sub => exact absurd rfl (hcb sub)
  | rot op x => exact decode_cbBytes_rot op x
  | bit b x =>
    obtain ⟨hbit, -, -⟩ := decode_cbBytes_bit b x
    exact hbit
  | res b x =>
    obtain ⟨-, hres, -⟩ := decode_cbBytes_bit b x
    exact hres
  | set b x =>
    obtain ⟨-, -, hset⟩ := decode_cbBytes_bit b x
    exact hset
  | ldAAtA16 a16 => exact decode_withWord (form := .ldAAtA16) rfl (fun _ _ => rfl) a16
  | ldAtA16A a16 => exact decode_withWord (form := .ldAtA16A) rfl (fun _ _ => rfl) a16
  | ldAtA16Sp a16 => exact decode_withWord (form := .ldAtA16Sp) rfl (fun _ _ => rfl) a16
  | jp a16 => exact decode_withWord (form := .jp) rfl (fun _ _ => rfl) a16
  | call a16 => exact decode_withWord (form := .call) rfl (fun _ _ => rfl) a16
  | ldPairImm rr n16 => cases rr <;> exact decode_withWord (form := .ldPairImm _) rfl (fun _ _ => rfl) n16
  | jpCc cc a16 => cases cc <;> exact decode_withWord (form := .jpCc _) rfl (fun _ _ => rfl) a16
  | callCc cc a16 => cases cc <;> exact decode_withWord (form := .callCc _) rfl (fun _ _ => rfl) a16
  | ldRegReg dst src => cases dst <;> cases src <;> rfl
  | ldRegImm dst n8 => cases dst <;> rfl
  | ldRegAtHl dst => cases dst <;> rfl
  | ldAtHlReg src => cases src <;> rfl
  | ldAAtPtr p => cases p <;> rfl
  | ldAtPtrA p => cases p <;> rfl
  | push rr => cases rr <;> rfl
  | pop rr => cases rr <;> rfl
  | alu op src =>
    cases src with
    | reg r => cases op <;> cases r <;> rfl
    | atHl => cases op <;> rfl
    | imm n8 => cases op <;> rfl
  | inc x => rcases x with (_ | _ | _ | _ | _ | _ | _) | _ <;> rfl
  | dec x => rcases x with (_ | _ | _ | _ | _ | _ | _) | _ <;> rfl
  | addHl rr => cases rr <;> rfl
  | incPair rr => cases rr <;> rfl
  | decPair rr => cases rr <;> rfl
  | jrCc cc e8 => cases cc <;> rfl
  | retCc cc => cases cc <;> rfl
  | rst y => fin_cases y <;> rfl
  | illegal op => cases op <;> rfl
  | _ => rfl

/-! ## Well-formed instructions -/

/-- PREFIX CB is the one name that is not canonical (R285). -/
theorem wellFormed_iff_form {i : Instr} : WellFormed i = true ↔ ∀ sub, i.form ≠ .prefixCb sub := by
  have hrow (sub : Byte) : i.form = .prefixCb sub ↔ i = .prefixCb sub :=
    ⟨fun h => by rw [← i.form_instr, h]; rfl, fun h => by rw [h]; rfl⟩
  simp only [ne_eq, hrow]
  unfold WellFormed
  split
  case h_1 sub => simp
  case h_2 h => exact ⟨fun _ => h, fun _ => rfl⟩

/-- A well-formed instruction is decoded from its own words. -/
theorem decode_encode {i : Instr} (hwf : WellFormed i = true) : decode (encode i) = .ok (i, []) := by
  have hwords := decode_bytes (wellFormed_iff_form.mp hwf)
  rwa [i.form_instr] at hwords

theorem resolvePrefix_ne_prefixCb (form : Form) (sub : Byte) : resolvePrefix form ≠ .prefixCb sub := by
  rw [← form.instr_form]
  exact opOf_ne_prefixCb form.instr sub

/-- The decoder answers canonical names alone, the prefix being resolved. -/
theorem wellFormed_of_decode {op : Byte} {rest tail : List Byte} {i : Instr} (h : decode (op :: rest) = .ok (i, tail)) :
    WellFormed i = true := by
  obtain ⟨b1, b2, rfl, -⟩ := decode_inv h
  rw [wellFormed_iff_form, Form.instr_form]
  exact resolvePrefix_ne_prefixCb _

end Sys2Proof.Machine

open Sys2Proof Sys2Proof.Machine

/-- Settles O2: an instruction is decoded from its own words, and what follows them is left over. -/
theorem decodeInvertsEncode : Obligations.DecodeInvertsEncode :=
  fun _ rest hwf => decode_append (decode_encode hwf) rest

/-- Settles O3: the prefix is resolved, and the words are the opcode and the operand bytes taken. -/
theorem encodeInvertsDecode : Obligations.EncodeInvertsDecode := by
  intro bytes rest i h
  cases bytes with
  | nil => cases h
  | cons op following =>
    obtain ⟨operands, -, rfl, hwords⟩ := encode_of_decode h
    exact ⟨wellFormed_of_decode h, by rw [hwords, List.cons_append]⟩

/-- Settles O1: each sample word is what its instruction is encoded to. -/
theorem decodesSampleWords : Obligations.DecodesSampleWords :=
  ⟨decode_encode (i := .ldBC) rfl, decode_encode (i := .ldBcN16 0x1234) rfl, decode_encode (i := .pushAf) rfl,
    decode_encode (i := .addAN8 0x01) rfl, decode_encode (i := .xorAtHl) rfl, decode_encode (i := .addHlHl) rfl,
    decode_encode (i := .rla) rfl, decode_encode (i := .jrE8 0xFE) rfl, decode_encode (i := .callA16 0x0200) rfl,
    decode_encode (i := .halt) rfl, decode_encode (i := .swapA) rfl, decode_encode (i := .set7AtHl) rfl,
    decode_encode (i := .set1E) rfl⟩
end
